-- ==== Sys2Proof/Word.lean ====
section
/-! DEFINITION. The word types of the block. Every value it produces is an unsigned integer (00_scope.md R10), held as the bit
vector of the width R6 gives it; bit 0 is the least significant (R8). -/

namespace Sys2Proof

/-- An instruction word: "an opaque 32-bit unsigned value; the sole input" (R6, R34). -/
abbrev Word := BitVec 32

/-- A register specifier or a shift amount, 0 to 31 (R6). It names a register outside the block (R15). -/
abbrev UInt5 := BitVec 5

/-- An immediate or an offset, 0 to 4095, never sign-extended (R6, R53, R55). -/
abbrev UInt12 := BitVec 12

/-- A byte, as a supplier may hold the word's parts (R26). -/
abbrev Byte := BitVec 8

end Sys2Proof
end

