-- ==== Sys2Proof/Machine/Result.lean ====
section
/-! DEFINITION. The result type of the decode function (40_decode.md R68), the slicer's fields (30_encoding.md §2) and a row of
the predicate table (30_encoding.md R58), as plain data. -/

namespace Sys2Proof.Machine

/-- The closed list of mnemonics, in the order of the source's enumeration (R68, R72). -/
inductive Mnemonic where
  | ANDI | SLTIU | SRLI | SLTI | SRAI | SLLI | ORI | XORI | ADDI | LW
  | AND | SLTU | MULH | SRA | XOR | SUB | SLT | MULHSU | MULHU | SRL
  | SLL | ADD | MUL | OR | SW | NOP
deriving DecidableEq, Repr

/-- The six operand shapes (R69, 90_conflicts.md C2). -/
inductive Shape where
  | immShift
  | immArith
  | regReg
  | load
  | store
  | noOperand
deriving DecidableEq, Repr

/-- A decoded instruction: one constructor per operand shape (R68). -/
inductive Decoded where
  | immShift (mnemonic : Mnemonic) (dst src shamt : UInt5)
  | immArith (mnemonic : Mnemonic) (dst src : UInt5) (imm : UInt12)
  | regReg (mnemonic : Mnemonic) (dst src1 src2 : UInt5)
  | load (mnemonic : Mnemonic) (dst base : UInt5) (offset : UInt12)
  | store (mnemonic : Mnemonic) (src base : UInt5) (offset : UInt12)
  | noOperand (mnemonic : Mnemonic)
deriving DecidableEq, Repr

/-- What decoding a word gives: an instruction, or Invalid carrying the whole word (R68, R75, R108). -/
inductive Result where
  | ok (d : Decoded)
  | invalid (word : Word)
deriving DecidableEq, Repr

/-- The fields the slicer extracts from every word, under the source's names (30_encoding.md R35 to R44, R46). -/
structure Fields where
  opcode : BitVec 7
  rd : UInt5
  funct3 : BitVec 3
  rs1 : UInt5
  rs2 : UInt5
  shamt : UInt5
  funct7 : BitVec 7
  immI : UInt12
  immSHi : BitVec 7
  immSLo : UInt5
  storeOffset : UInt12
deriving DecidableEq, Repr

/-- A row of the predicate table (R58); `none` is the table's "—", which imposes no condition. -/
structure PredicateRow where
  opcode : BitVec 7
  funct3 : Option (BitVec 3)
  funct7 : Option (BitVec 7)
  /-- The extra condition "rs1 == 0". -/
  rs1Zero : Bool
  /-- The extra condition bits[31:30]=="00". -/
  top00 : Bool
deriving DecidableEq, Repr

/-- The order in which a supplier assembles the word from four bytes: WORD_BYTE_ORDER, left open (20_memory.md R26,
92_eei_decisions.md D9) and so an argument wherever it occurs. DESIGN CHOICE (log entry 12): the spec gives no list of values, and
the model admits these two orders only, no mixed order of the four bytes. Unsafe for a claim made for every order a supplier may
use; no result of the block depends on it. -/
inductive ByteOrder where
  | littleEndian
  | bigEndian
deriving DecidableEq, Repr

end Sys2Proof.Machine
end

