-- ==== Sys2Proof/Machine/State.lean ====
section
/-! DEFINITION. The machine's state as plain data, the reasons a step can stop, and the state after reset.

The block stores nothing (10_state.md R14). State holds its boundary at one instant (the input port, the result and the output
ports of 40_decode.md R67) and, as the model's own fields, what the supplier will present next. -/

namespace Sys2Proof.Machine

/-- The output ports (R67). `rs2` also carries shamt (R40). -/
structure OutPorts where
  valid : BitVec 1
  mnem : BitVec 5
  shape : BitVec 3
  opcode : BitVec 7
  funct3 : BitVec 3
  funct7 : BitVec 7
  rd : UInt5
  rs1 : UInt5
  rs2 : UInt5
  immI : UInt12
  storeOffset : UInt12
deriving DecidableEq, Repr

/-- The reasons the machine stops with a fault: there are NONE, so the type has no constructor. InvalidInstruction, the block's
one error kind, is "an ordinary `Invalid` outcome, not an exceptional one" (44_nop_invalid.md R108, 60_exceptions.md R121): a next
state whose result is `Invalid(word)`. Safe or unsafe: log entry 13. -/
inductive Fault where
deriving DecidableEq, Repr

/-- The reasons the model has no meaning for an instruction. -/
inductive Refusal where
  /-- Raised by an arm of exec whose instruction has no meaning yet; no arm is such. Safe: the machine stops where the block
  would go on. -/
  | notModelled (mnemonic : String)
deriving DecidableEq, Repr

/-- The state. -/
structure State where
  /-- The input port (R67): the word present at this instant. -/
  instr : Word
  /-- The result of decoding it (R68). -/
  result : Result
  /-- The output ports (R67). -/
  ports : OutPorts
  /-- MODEL's own: the words the supplier has still to present, the next one first (20_memory.md R32; log entry 1). -/
  supply : List Word
  /-- MODEL's own: which free value an undriven input reads next (Config.undrivenInstr; log entry 2). -/
  undriven : Nat
deriving DecidableEq, Repr

/-- Right after power-up. The block has no reset (70_reset_and_hazards.md R132); each output is the function of the word at `instr`
(10_state.md R22, R133). That word is DESIGN CHOICE 0x00000000, the two model fields are DESIGN CHOICE empty and 0, and nothing is
supplied yet (log entries 2 and 3; unsafe). -/
def State.reset : State :=
  { instr := 0
    result := .invalid 0
    ports := { valid := 0, mnem := 31, shape := 7, opcode := 0, funct3 := 0, funct7 := 0, rd := 0, rs1 := 0, rs2 := 0,
               immI := 0, storeOffset := 0 }
    supply := []
    undriven := 0 }

end Sys2Proof.Machine
end

