-- ==== Sys2Proof/Machine/Flags.lean ====
section
/-! DEFINITION. The status outputs: `valid`, `mnem` and `shape` (40_decode.md R76 to R78), and reading the result back off the ports
(R81). The block has no flags and no condition codes (10_state.md R18): these outputs are combinational and stored nowhere. -/

namespace Sys2Proof.Machine

/-- The mnemonic a decoded instruction carries (R68). -/
def Decoded.mnemonic : Decoded → Mnemonic
  | .immShift mn _ _ _ => mn
  | .immArith mn _ _ _ => mn
  | .regReg mn _ _ _ => mn
  | .load mn _ _ _ => mn
  | .store mn _ _ _ => mn
  | .noOperand mn => mn

/-- The operand shape of a decoded instruction (R68). -/
def Decoded.shape : Decoded → Shape
  | .immShift _ _ _ _ => .immShift
  | .immArith _ _ _ _ => .immArith
  | .regReg _ _ _ _ => .regReg
  | .load _ _ _ _ => .load
  | .store _ _ _ _ => .store
  | .noOperand _ => .noOperand

/-- The code of a mnemonic: its index in the source's enumeration (R77; the spec's decision D3). -/
def mnemonicCode : Mnemonic → BitVec 5
  | .ANDI => 0
  | .SLTIU => 1
  | .SRLI => 2
  | .SLTI => 3
  | .SRAI => 4
  | .SLLI => 5
  | .ORI => 6
  | .XORI => 7
  | .ADDI => 8
  | .LW => 9
  | .AND => 10
  | .SLTU => 11
  | .MULH => 12
  | .SRA => 13
  | .XOR => 14
  | .SUB => 15
  | .SLT => 16
  | .MULHSU => 17
  | .MULHU => 18
  | .SRL => 19
  | .SLL => 20
  | .ADD => 21
  | .MUL => 22
  | .OR => 23
  | .SW => 24
  | .NOP => 25

/-- The code of an operand shape (R78; the spec's decision D4). -/
def shapeCode : Shape → BitVec 3
  | .immShift => 0
  | .immArith => 1
  | .regReg => 2
  | .load => 3
  | .store => 4
  | .noOperand => 5

/-- `valid` of a result (R76). -/
def validOut : Result → BitVec 1
  | .ok _ => 1
  | .invalid _ => 0

/-- `mnem` of a result, 31 for Invalid (R77). -/
def mnemOut : Result → BitVec 5
  | .ok d => mnemonicCode d.mnemonic
  | .invalid _ => 31

/-- `shape` of a result, 7 for Invalid (R78). -/
def shapeOut : Result → BitVec 3
  | .ok d => shapeCode d.shape
  | .invalid _ => 7

/-- Every mnemonic, in code order (R77). -/
def mnemonicOfCode (c : BitVec 5) : Option Mnemonic :=
  ([.ANDI, .SLTIU, .SRLI, .SLTI, .SRAI, .SLLI, .ORI, .XORI, .ADDI, .LW, .AND, .SLTU, .MULH] ++
   [.SRA, .XOR, .SUB, .SLT, .MULHSU, .MULHU, .SRL, .SLL, .ADD, .MUL, .OR, .SW, .NOP] : List Mnemonic)[c.toNat]?

/-- A consumer's reading of a valid result off the ports: only the ports the shape names (R79, R81). Shape codes 6 and 7 name no
shape of an instruction. -/
def readOk (mn : Mnemonic) (p : OutPorts) : Option Decoded :=
  if p.shape = 0 then some (.immShift mn p.rd p.rs1 p.rs2)
  else if p.shape = 1 then some (.immArith mn p.rd p.rs1 p.immI)
  else if p.shape = 2 then some (.regReg mn p.rd p.rs1 p.rs2)
  else if p.shape = 3 then some (.load mn p.rd p.rs1 p.immI)
  else if p.shape = 4 then some (.store mn p.rs2 p.rs1 p.storeOffset)
  else if p.shape = 5 then some (.noOperand mn)
  else none

/-- A consumer's reading of the result off the ports and the input (R81). `none`, the consumer's refusal, for the codes the block
never drives: mnemonic codes 26 to 30 and shape code 6 (93_implementation_defined.md row 11). -/
def readPorts (p : OutPorts) (instr : Word) : Option Result :=
  if p.valid = 1 then
    match mnemonicOfCode p.mnem with
    | some mn => (readOk mn p).map .ok
    | none => none
  else if p.mnem = 31 ∧ p.shape = 7 then some (.invalid instr)
  else none

end Sys2Proof.Machine
end

