-- ==== Sys2Proof/Config.lean ====
section
/-! DEFINITION. The fixed parameters of the block (00_scope.md R6) and the one free value of the model. The block has no
options, no optional features and no mode inputs. -/

namespace Sys2Proof.Config

/-- Instruction word width, and the only instruction length accepted (R6, R34). -/
def wordBits : Nat := 32

/-- Number of supported mnemonics (R6). -/
def mnemonicCount : Nat := 26

/-- FREE VALUE. The word on `instr` while no supplier drives it: R133 speaks of "the value the input then has" and names none.
The n-th such step of a run reads this constant at n, and nothing can evaluate it. DESIGN CHOICE (log entry 2), safe: whatever is
proved holds for every word the undriven input may carry. -/
opaque undrivenInstr : Nat → Word

end Sys2Proof.Config
end

