-- ==== Sys2Proof/Syntax.lean ====
section
/-! DEFINITION. The instructions of the block as syntax: one constructor per row of opcode_table.json, in the table's order,
with the operands the row's rule lists (41_op_imm.md to 44_nop_invalid.md). -/

namespace Sys2Proof

/-- The 26 instructions (00_scope.md R2). The operands carry the names of the rules' "Operands:" lines. -/
inductive Instr where
  /-- R82. -/
  | addi (dst src : UInt5) (imm : UInt12)
  /-- R83. -/
  | slli (dst src shamt : UInt5)
  /-- R84. -/
  | slti (dst src : UInt5) (imm : UInt12)
  /-- R85. -/
  | sltiu (dst src : UInt5) (imm : UInt12)
  /-- R86. -/
  | xori (dst src : UInt5) (imm : UInt12)
  /-- R87. -/
  | srli (dst src shamt : UInt5)
  /-- R88. -/
  | srai (dst src shamt : UInt5)
  /-- R89. -/
  | ori (dst src : UInt5) (imm : UInt12)
  /-- R90. -/
  | andi (dst src : UInt5) (imm : UInt12)
  /-- R91. -/
  | lw (dst base : UInt5) (offset : UInt12)
  /-- R92. -/
  | sw (src base : UInt5) (offset : UInt12)
  /-- R93. -/
  | add (dst src1 src2 : UInt5)
  /-- R94. -/
  | sub (dst src1 src2 : UInt5)
  /-- R95. -/
  | mul (dst src1 src2 : UInt5)
  /-- R96. -/
  | sll (dst src1 src2 : UInt5)
  /-- R97. -/
  | slt (dst src1 src2 : UInt5)
  /-- R98. -/
  | mulhsu (dst src1 src2 : UInt5)
  /-- R99. -/
  | sltu (dst src1 src2 : UInt5)
  /-- R100. -/
  | mulhu (dst src1 src2 : UInt5)
  /-- R101. -/
  | xor (dst src1 src2 : UInt5)
  /-- R102. -/
  | srl (dst src1 src2 : UInt5)
  /-- R103. -/
  | sra (dst src1 src2 : UInt5)
  /-- R104. -/
  | mulh (dst src1 src2 : UInt5)
  /-- R105. -/
  | or (dst src1 src2 : UInt5)
  /-- R106. -/
  | and (dst src1 src2 : UInt5)
  /-- R107. -/
  | nop
deriving DecidableEq, Repr

end Sys2Proof
end

