-- ==== Sys2Proof/Decode.lean ====
section
/-! DEFINITION. The bit-field slicer, the predicate table, the decoder (total on the 2^32 words, rejecting by name) and, after
it, the encoder, both from 30_encoding.md. -/

namespace Sys2Proof

open Sys2Proof.Machine

/-! ### The slicer (30_encoding.md §2) -/

/-- `opcode = w[6:0]` (R35). -/
def opcodeField (w : Word) : BitVec 7 := w.extractLsb' 0 7

/-- `rd = w[11:7]` (R36). -/
def rdField (w : Word) : UInt5 := w.extractLsb' 7 5

/-- `funct3 = w[14:12]` (R37). -/
def funct3Field (w : Word) : BitVec 3 := w.extractLsb' 12 3

/-- `rs1 = w[19:15]` (R38). -/
def rs1Field (w : Word) : UInt5 := w.extractLsb' 15 5

/-- `rs2 = w[24:20]` (R39). -/
def rs2Field (w : Word) : UInt5 := w.extractLsb' 20 5

/-- `shamt = w[24:20]`, the alias of rs2 (R40). -/
def shamtField (w : Word) : UInt5 := w.extractLsb' 20 5

/-- `funct7 = w[31:25]` (R41). -/
def funct7Field (w : Word) : BitVec 7 := w.extractLsb' 25 7

/-- `imm_i = w[31:20]`, raw (R42). -/
def immIField (w : Word) : UInt12 := w.extractLsb' 20 12

/-- `imm_s_hi = w[31:25]` (R43). -/
def immSHiField (w : Word) : BitVec 7 := w.extractLsb' 25 7

/-- `imm_s_lo = w[11:7]` (R43). -/
def immSLoField (w : Word) : UInt5 := w.extractLsb' 7 5

/-- `store_offset = imm_s_hi ‖ imm_s_lo`, hi the more significant part (R44, R9). -/
def storeOffsetField (w : Word) : UInt12 := immSHiField w ++ immSLoField w

/-- The slicer: all fields of every word, before and independently of classification (R46). -/
def slice (w : Word) : Fields :=
  { opcode := opcodeField w, rd := rdField w, funct3 := funct3Field w, rs1 := rs1Field w, rs2 := rs2Field w,
    shamt := shamtField w, funct7 := funct7Field w, immI := immIField w, immSHi := immSHiField w,
    immSLo := immSLoField w, storeOffset := storeOffsetField w }

/-! ### The predicate table (30_encoding.md §5) -/

/-- The predicate table, in the source's order (R58). -/
def predicateRow : Mnemonic → PredicateRow
  | .ADDI => ⟨0b0010011#7, some 0b000#3, none, false, false⟩
  | .SLLI => ⟨0b0010011#7, some 0b001#3, some 0b0000000#7, false, false⟩
  | .SLTI => ⟨0b0010011#7, some 0b010#3, none, false, false⟩
  | .SLTIU => ⟨0b0010011#7, some 0b011#3, none, false, false⟩
  | .XORI => ⟨0b0010011#7, some 0b100#3, none, false, false⟩
  | .SRLI => ⟨0b0010011#7, some 0b101#3, some 0b0000000#7, false, false⟩
  | .SRAI => ⟨0b0010011#7, some 0b101#3, some 0b0100000#7, false, false⟩
  | .ORI => ⟨0b0010011#7, some 0b110#3, none, false, false⟩
  | .ANDI => ⟨0b0010011#7, some 0b111#3, none, false, false⟩
  | .LW => ⟨0b0000011#7, some 0b010#3, none, true, false⟩
  | .SW => ⟨0b0100011#7, some 0b010#3, none, true, true⟩
  | .ADD => ⟨0b0110011#7, some 0b000#3, some 0b0000000#7, false, false⟩
  | .SUB => ⟨0b0110011#7, some 0b000#3, some 0b0100000#7, false, false⟩
  | .MUL => ⟨0b0110011#7, some 0b000#3, some 0b0000001#7, false, false⟩
  | .SLL => ⟨0b0110011#7, some 0b001#3, some 0b0000000#7, false, false⟩
  | .SLT => ⟨0b0110011#7, some 0b010#3, some 0b0000000#7, false, false⟩
  | .MULHSU => ⟨0b0110011#7, some 0b010#3, some 0b0000001#7, false, false⟩
  | .SLTU => ⟨0b0110011#7, some 0b011#3, some 0b0000000#7, false, false⟩
  | .MULHU => ⟨0b0110011#7, some 0b011#3, some 0b0000001#7, false, false⟩
  | .XOR => ⟨0b0110011#7, some 0b100#3, some 0b0000000#7, false, false⟩
  | .SRL => ⟨0b0110011#7, some 0b101#3, some 0b0000000#7, false, false⟩
  | .SRA => ⟨0b0110011#7, some 0b101#3, some 0b0100000#7, false, false⟩
  | .MULH => ⟨0b0110011#7, some 0b001#3, some 0b0000001#7, false, false⟩
  | .OR => ⟨0b0110011#7, some 0b110#3, some 0b0000000#7, false, false⟩
  | .AND => ⟨0b0110011#7, some 0b111#3, some 0b0000000#7, false, false⟩
  | .NOP => ⟨0b1111111#7, none, none, false, false⟩

/-- A condition of the table: "—" (none) holds of every value (R52, R58). -/
def entryHolds {n : Nat} (entry : Option (BitVec n)) (v : BitVec n) : Bool :=
  match entry with
  | none => true
  | some e => v == e

/-- Whether a row's conditions hold of the fields. The classifier reads opcode, funct3, funct7 and rs1-is-zero only: bits[31:30]
are funct7[6:5] (R45, 90_conflicts.md C4). -/
def rowHolds (r : PredicateRow) (f : Fields) : Bool :=
  f.opcode == r.opcode && entryHolds r.funct3 f.funct3 && entryHolds r.funct7 f.funct7 &&
    (!r.rs1Zero || f.rs1 == 0#5) && (!r.top00 || f.funct7.extractLsb' 5 2 == 0#2)

/-- The predicate of a mnemonic, on a word (R58). -/
def predicate (mn : Mnemonic) (w : Word) : Bool := rowHolds (predicateRow mn) (slice w)

/-- The `match` constant of each mnemonic (R59). -/
def matchOf : Mnemonic → Word
  | .ADDI => 0x00000013
  | .SLLI => 0x00001013
  | .SLTI => 0x00002013
  | .SLTIU => 0x00003013
  | .XORI => 0x00004013
  | .SRLI => 0x00005013
  | .SRAI => 0x40005013
  | .ORI => 0x00006013
  | .ANDI => 0x00007013
  | .LW => 0x00002003
  | .SW => 0x00002023
  | .ADD => 0x00000033
  | .SUB => 0x40000033
  | .MUL => 0x02000033
  | .SLL => 0x00001033
  | .SLT => 0x00002033
  | .MULHSU => 0x02002033
  | .SLTU => 0x00003033
  | .MULHU => 0x02003033
  | .XOR => 0x00004033
  | .SRL => 0x00005033
  | .SRA => 0x40005033
  | .MULH => 0x02001033
  | .OR => 0x00006033
  | .AND => 0x00007033
  | .NOP => 0x0000007F

/-- The `mask` constant of each mnemonic (R59): the bits its predicate reads (R60). -/
def maskOf : Mnemonic → Word
  | .ADDI => 0x0000707F
  | .SLLI => 0xFE00707F
  | .SLTI => 0x0000707F
  | .SLTIU => 0x0000707F
  | .XORI => 0x0000707F
  | .SRLI => 0xFE00707F
  | .SRAI => 0xFE00707F
  | .ORI => 0x0000707F
  | .ANDI => 0x0000707F
  | .LW => 0x000FF07F
  | .SW => 0xC00FF07F
  | .ADD => 0xFE00707F
  | .SUB => 0xFE00707F
  | .MUL => 0xFE00707F
  | .SLL => 0xFE00707F
  | .SLT => 0xFE00707F
  | .MULHSU => 0xFE00707F
  | .SLTU => 0xFE00707F
  | .MULHU => 0xFE00707F
  | .XOR => 0xFE00707F
  | .SRL => 0xFE00707F
  | .SRA => 0xFE00707F
  | .MULH => 0xFE00707F
  | .OR => 0xFE00707F
  | .AND => 0xFE00707F
  | .NOP => 0x0000007F

/-- The priority order: the order of the source's enumeration (R72; the spec's decision D6, unobservable by R73). -/
def priority : List Mnemonic :=
  [.ANDI, .SLTIU, .SRLI, .SLTI, .SRAI, .SLLI, .ORI, .XORI, .ADDI, .LW, .AND, .SLTU, .MULH] ++
  [.SRA, .XOR, .SUB, .SLT, .MULHSU, .MULHU, .SRL, .SLL, .ADD, .MUL, .OR, .SW, .NOP]

/-- First match in an order of evaluation. -/
def classifyIn (order : List Mnemonic) (w : Word) : Option Mnemonic := order.find? fun mn => predicate mn w

/-- The classifier: the first matching predicate in priority order wins (R71 step 2, R72). -/
def classify (w : Word) : Option Mnemonic := classifyIn priority w

/-! ### The decoder -/

/-- What the decoder reads from a word: an instruction, or the one error kind, carrying the word (R68, R75). -/
inductive DecodeOutcome where
  | ok (i : Instr)
  | invalidInstruction (word : Word)
deriving DecidableEq, Repr

/-- Opcode 0010011: the nine immediate instructions (41_op_imm.md R82 to R90). -/
def decodeOpImm (f : Fields) (w : Word) : DecodeOutcome :=
  if f.funct3 = 0b000#3 then .ok (.addi f.rd f.rs1 f.immI)
  else if f.funct3 = 0b001#3 then
    if f.funct7 = 0b0000000#7 then .ok (.slli f.rd f.rs1 f.shamt) else .invalidInstruction w
  else if f.funct3 = 0b010#3 then .ok (.slti f.rd f.rs1 f.immI)
  else if f.funct3 = 0b011#3 then .ok (.sltiu f.rd f.rs1 f.immI)
  else if f.funct3 = 0b100#3 then .ok (.xori f.rd f.rs1 f.immI)
  else if f.funct3 = 0b101#3 then
    if f.funct7 = 0b0000000#7 then .ok (.srli f.rd f.rs1 f.shamt)
    else if f.funct7 = 0b0100000#7 then .ok (.srai f.rd f.rs1 f.shamt)
    else .invalidInstruction w
  else if f.funct3 = 0b110#3 then .ok (.ori f.rd f.rs1 f.immI)
  else .ok (.andi f.rd f.rs1 f.immI)

/-- Opcode 0000011: LW, with base register zero only (42_load_store.md R91). -/
def decodeLoad (f : Fields) (w : Word) : DecodeOutcome :=
  if f.funct3 = 0b010#3 ∧ f.rs1 = 0#5 then .ok (.lw f.rd f.rs1 f.immI) else .invalidInstruction w

/-- Opcode 0100011: SW, with base register zero and bits [31:30] = 00 only (42_load_store.md R92). -/
def decodeStore (f : Fields) (w : Word) : DecodeOutcome :=
  if f.funct3 = 0b010#3 ∧ f.rs1 = 0#5 ∧ f.funct7.extractLsb' 5 2 = 0b00#2 then .ok (.sw f.rs2 f.rs1 f.storeOffset)
  else .invalidInstruction w

/-- Opcode 0110011, funct7 0000000. -/
def decodeOpBase (f : Fields) : Instr :=
  if f.funct3 = 0b000#3 then .add f.rd f.rs1 f.rs2
  else if f.funct3 = 0b001#3 then .sll f.rd f.rs1 f.rs2
  else if f.funct3 = 0b010#3 then .slt f.rd f.rs1 f.rs2
  else if f.funct3 = 0b011#3 then .sltu f.rd f.rs1 f.rs2
  else if f.funct3 = 0b100#3 then .xor f.rd f.rs1 f.rs2
  else if f.funct3 = 0b101#3 then .srl f.rd f.rs1 f.rs2
  else if f.funct3 = 0b110#3 then .or f.rd f.rs1 f.rs2
  else .and f.rd f.rs1 f.rs2

/-- Opcode 0110011, funct7 0100000. -/
def decodeOpAlt (f : Fields) (w : Word) : DecodeOutcome :=
  if f.funct3 = 0b000#3 then .ok (.sub f.rd f.rs1 f.rs2)
  else if f.funct3 = 0b101#3 then .ok (.sra f.rd f.rs1 f.rs2)
  else .invalidInstruction w

/-- Opcode 0110011, funct7 0000001: the multiplies; the divide and remainder encodings are Invalid (R62 (f), R95). -/
def decodeOpMul (f : Fields) (w : Word) : DecodeOutcome :=
  if f.funct3 = 0b000#3 then .ok (.mul f.rd f.rs1 f.rs2)
  else if f.funct3 = 0b001#3 then .ok (.mulh f.rd f.rs1 f.rs2)
  else if f.funct3 = 0b010#3 then .ok (.mulhsu f.rd f.rs1 f.rs2)
  else if f.funct3 = 0b011#3 then .ok (.mulhu f.rd f.rs1 f.rs2)
  else .invalidInstruction w

/-- Opcode 0110011: the fourteen register-register instructions, by the (funct3, funct7) table at the head of 43_op_reg.md. -/
def decodeOpReg (f : Fields) (w : Word) : DecodeOutcome :=
  if f.funct7 = 0b0000000#7 then .ok (decodeOpBase f)
  else if f.funct7 = 0b0100000#7 then decodeOpAlt f w
  else if f.funct7 = 0b0000001#7 then decodeOpMul f w
  else .invalidInstruction w

/-- The decoder, as the single match over (opcode, funct3, funct7) with guards that the source recommends (R73); the five
opcodes are those of R57. -/
def decode (w : Word) : DecodeOutcome :=
  let f := slice w
  if f.opcode = 0b0010011#7 then decodeOpImm f w
  else if f.opcode = 0b0000011#7 then decodeLoad f w
  else if f.opcode = 0b0100011#7 then decodeStore f w
  else if f.opcode = 0b0110011#7 then decodeOpReg f w
  else if f.opcode = 0b1111111#7 then .ok .nop
  else .invalidInstruction w

/-- The word whose low `nbits` bits are those of `w` and whose other bits are 0: the opcode table numbers a word's bits as the
spec does, so no byte order is involved (R8, R26; log entry 12). -/
def tableWord (nbits w : Nat) : Word := BitVec.ofNat Config.wordBits (w % 2 ^ nbits)

/-- The decoder on a word of the opcode table. The only instruction length is 32 bits (R34). -/
def decodeTableWord (nbits w : Nat) : Option Instr :=
  if nbits ≤ Config.wordBits then
    match decode (tableWord nbits w) with
    | .ok i => some i
    | .invalidInstruction _ => none
  else none

/-! ### The encoder (30_encoding.md §3) -/

/-- The five-part layout of R47 and R49: imm_i, rs1, funct3, rd, opcode. -/
def iFormat (imm : UInt12) (rs1 : UInt5) (funct3 : BitVec 3) (rd : UInt5) (opcode : BitVec 7) : Word :=
  imm ++ rs1 ++ funct3 ++ rd ++ opcode

/-- The six-part layout of R48 and R51: funct7, then shamt or rs2, rs1, funct3, rd, opcode. -/
def rFormat (funct7 : BitVec 7) (rs2 rs1 : UInt5) (funct3 : BitVec 3) (rd : UInt5) (opcode : BitVec 7) : Word :=
  funct7 ++ rs2 ++ rs1 ++ funct3 ++ rd ++ opcode

/-- The store layout of R50: the offset's high seven bits, rs2, rs1, funct3, its low five bits, opcode. -/
def sFormat (offset : UInt12) (rs2 rs1 : UInt5) (funct3 : BitVec 3) (opcode : BitVec 7) : Word :=
  rFormat (offset.extractLsb' 5 7) rs2 rs1 funct3 (offset.extractLsb' 0 5) opcode

/-- The encoder. The spec has none ("assembling text back to machine code" is a non-goal, R66); it is written from the layouts
R47 to R52 to state that decoding drops no bit. DESIGN CHOICE (log entry 11), safe: NOP's ignored bits [31:7] are written 0. -/
def encode : Instr → Word
  | .addi dst src imm => iFormat imm src 0b000#3 dst 0b0010011#7
  | .slli dst src shamt => rFormat 0b0000000#7 shamt src 0b001#3 dst 0b0010011#7
  | .slti dst src imm => iFormat imm src 0b010#3 dst 0b0010011#7
  | .sltiu dst src imm => iFormat imm src 0b011#3 dst 0b0010011#7
  | .xori dst src imm => iFormat imm src 0b100#3 dst 0b0010011#7
  | .srli dst src shamt => rFormat 0b0000000#7 shamt src 0b101#3 dst 0b0010011#7
  | .srai dst src shamt => rFormat 0b0100000#7 shamt src 0b101#3 dst 0b0010011#7
  | .ori dst src imm => iFormat imm src 0b110#3 dst 0b0010011#7
  | .andi dst src imm => iFormat imm src 0b111#3 dst 0b0010011#7
  | .lw dst base offset => iFormat offset base 0b010#3 dst 0b0000011#7
  | .sw src base offset => sFormat offset src base 0b010#3 0b0100011#7
  | .add dst src1 src2 => rFormat 0b0000000#7 src2 src1 0b000#3 dst 0b0110011#7
  | .sub dst src1 src2 => rFormat 0b0100000#7 src2 src1 0b000#3 dst 0b0110011#7
  | .mul dst src1 src2 => rFormat 0b0000001#7 src2 src1 0b000#3 dst 0b0110011#7
  | .sll dst src1 src2 => rFormat 0b0000000#7 src2 src1 0b001#3 dst 0b0110011#7
  | .slt dst src1 src2 => rFormat 0b0000000#7 src2 src1 0b010#3 dst 0b0110011#7
  | .mulhsu dst src1 src2 => rFormat 0b0000001#7 src2 src1 0b010#3 dst 0b0110011#7
  | .sltu dst src1 src2 => rFormat 0b0000000#7 src2 src1 0b011#3 dst 0b0110011#7
  | .mulhu dst src1 src2 => rFormat 0b0000001#7 src2 src1 0b011#3 dst 0b0110011#7
  | .xor dst src1 src2 => rFormat 0b0000000#7 src2 src1 0b100#3 dst 0b0110011#7
  | .srl dst src1 src2 => rFormat 0b0000000#7 src2 src1 0b101#3 dst 0b0110011#7
  | .sra dst src1 src2 => rFormat 0b0100000#7 src2 src1 0b101#3 dst 0b0110011#7
  | .mulh dst src1 src2 => rFormat 0b0000001#7 src2 src1 0b001#3 dst 0b0110011#7
  | .or dst src1 src2 => rFormat 0b0000000#7 src2 src1 0b110#3 dst 0b0110011#7
  | .and dst src1 src2 => rFormat 0b0000000#7 src2 src1 0b111#3 dst 0b0110011#7
  | .nop => iFormat 0#12 0#5 0#3 0#5 0b1111111#7

/-- The row of the opcode table an instruction belongs to. -/
def Instr.mnemonic : Instr → Mnemonic
  | .addi _ _ _ => .ADDI
  | .slli _ _ _ => .SLLI
  | .slti _ _ _ => .SLTI
  | .sltiu _ _ _ => .SLTIU
  | .xori _ _ _ => .XORI
  | .srli _ _ _ => .SRLI
  | .srai _ _ _ => .SRAI
  | .ori _ _ _ => .ORI
  | .andi _ _ _ => .ANDI
  | .lw _ _ _ => .LW
  | .sw _ _ _ => .SW
  | .add _ _ _ => .ADD
  | .sub _ _ _ => .SUB
  | .mul _ _ _ => .MUL
  | .sll _ _ _ => .SLL
  | .slt _ _ _ => .SLT
  | .mulhsu _ _ _ => .MULHSU
  | .sltu _ _ _ => .SLTU
  | .mulhu _ _ _ => .MULHU
  | .xor _ _ _ => .XOR
  | .srl _ _ _ => .SRL
  | .sra _ _ _ => .SRA
  | .mulh _ _ _ => .MULH
  | .or _ _ _ => .OR
  | .and _ _ _ => .AND
  | .nop => .NOP

end Sys2Proof
end

