-- ==== Sys2Proof/Machine/Operands.lean ====
section
/-! DEFINITION. The operand shapes, the operand assembler, and the decode function as 40_decode.md R71 writes it: slice, classify in
priority order, assemble or return Invalid. The machine's step runs `decode` and the meanings; that the two agree is a statement. -/

namespace Sys2Proof.Machine

/-- The one operand shape of each mnemonic (R69). -/
def shapeOf : Mnemonic → Shape
  | .SLLI => .immShift
  | .SRLI => .immShift
  | .SRAI => .immShift
  | .ADDI => .immArith
  | .SLTI => .immArith
  | .SLTIU => .immArith
  | .XORI => .immArith
  | .ORI => .immArith
  | .ANDI => .immArith
  | .ADD => .regReg
  | .SUB => .regReg
  | .MUL => .regReg
  | .SLL => .regReg
  | .SLT => .regReg
  | .MULHSU => .regReg
  | .SLTU => .regReg
  | .MULHU => .regReg
  | .XOR => .regReg
  | .SRL => .regReg
  | .SRA => .regReg
  | .MULH => .regReg
  | .OR => .regReg
  | .AND => .regReg
  | .LW => .load
  | .SW => .store
  | .NOP => .noOperand

/-- The operand assembler (R70): the fields that the mnemonic's shape names; no value is sign-extended (R53, R55). -/
def assemble (mn : Mnemonic) (f : Fields) : Decoded :=
  match shapeOf mn with
  | .immShift => .immShift mn f.rd f.rs1 f.shamt
  | .immArith => .immArith mn f.rd f.rs1 f.immI
  | .regReg => .regReg mn f.rd f.rs1 f.rs2
  | .load => .load mn f.rd f.rs1 f.immI
  | .store => .store mn f.rs2 f.rs1 f.storeOffset
  | .noOperand => .noOperand mn

/-- The decode function of R71. -/
def decodeResult (w : Word) : Result :=
  match classify w with
  | some mn => .ok (assemble mn (slice w))
  | none => .invalid w

end Sys2Proof.Machine
end

