-- ==== Sys2Proof/Machine/Ops.lean ====
section
/-! DEFINITION. The named operations of a step: presenting a word, driving the field ports, delivering a result. The block has no
memory and no registers (10_state.md R15, 20_memory.md R23), so no operation reads or writes one; it has no trap entry and no trap
return (60_exceptions.md R124, R125), and delivering `Invalid(word)` stands in their place (R121). -/

namespace Sys2Proof.Machine

/-- The word the next decode sees: the supplier's next one, or whatever an undriven input carries (R32, R133; log entry 2). -/
def nextWord (s : State) : Word :=
  match s.supply with
  | w :: _ => w
  | [] => Config.undrivenInstr s.undriven

/-- The supplier presents the next word at `instr`. With nothing left to present the input is undriven: the word is the next free
value, and the counter advances (log entries 1 and 2). -/
def present (s : State) : State :=
  match s.supply with
  | w :: ws => { s with instr := w, supply := ws }
  | [] => { s with instr := Config.undrivenInstr s.undriven, undriven := s.undriven + 1 }

/-- The slicer's ports carry the raw slices of `instr`, whatever the word decodes to (R46, R79). -/
def driveFields (s : State) : State :=
  let f := slice s.instr
  { s with ports :=
    { s.ports with opcode := f.opcode, funct3 := f.funct3, funct7 := f.funct7, rd := f.rd, rs1 := f.rs1, rs2 := f.rs2,
                   immI := f.immI, storeOffset := f.storeOffset } }

/-- A result is delivered: the result itself and the three ports that code it (R76 to R78). The shared operation of every meaning,
and of the Invalid outcome (R108). -/
def deliver (r : Result) (s : State) : State :=
  { s with
    result := r
    ports := { s.ports with valid := validOut r, mnem := mnemOut r, shape := shapeOut r } }

/-- All output ports as a function of the word at `instr` (R133, R80). -/
def portsOf (w : Word) : OutPorts :=
  let r := decodeResult w
  let f := slice w
  { valid := validOut r, mnem := mnemOut r, shape := shapeOut r, opcode := f.opcode, funct3 := f.funct3, funct7 := f.funct7,
    rd := f.rd, rs1 := f.rs1, rs2 := f.rs2, immI := f.immI, storeOffset := f.storeOffset }

end Sys2Proof.Machine
end

