-- ==== Sys2Proof/Machine/LoadStore.lean ====
section
/-! DEFINITION. LW and SW (42_load_store.md): decode-only. The block performs no access and computes no address (20_memory.md R24). -/

namespace Sys2Proof.Machine

/-- R91. -/
def execLw (dst base : UInt5) (offset : UInt12) (s : State) : Host.Outcome State Fault Refusal :=
  .next (deliver (.ok (.load .LW dst base offset)) s)

/-- R92. -/
def execSw (src base : UInt5) (offset : UInt12) (s : State) : Host.Outcome State Fault Refusal :=
  .next (deliver (.ok (.store .SW src base offset)) s)

end Sys2Proof.Machine
end

