-- ==== Sys2Proof/Machine/Nop.lean ====
section
/-! DEFINITION. The sentinel NOP (44_nop_invalid.md): a result with no operands. -/

namespace Sys2Proof.Machine

/-- R107. -/
def execNop (s : State) : Host.Outcome State Fault Refusal :=
  .next (deliver (.ok (.noOperand .NOP)) s)

end Sys2Proof.Machine
end

