-- ==== Sys2Proof/Machine/OpImm.lean ====
section
/-! DEFINITION. The nine immediate instructions (41_op_imm.md): the result carries the immediate as the raw unsigned field, or the shift amount. -/

namespace Sys2Proof.Machine

/-- R82. -/
def execAddi (dst src : UInt5) (imm : UInt12) (s : State) : Host.Outcome State Fault Refusal :=
  .next (deliver (.ok (.immArith .ADDI dst src imm)) s)

/-- R83. -/
def execSlli (dst src shamt : UInt5) (s : State) : Host.Outcome State Fault Refusal :=
  .next (deliver (.ok (.immShift .SLLI dst src shamt)) s)

/-- R84. -/
def execSlti (dst src : UInt5) (imm : UInt12) (s : State) : Host.Outcome State Fault Refusal :=
  .next (deliver (.ok (.immArith .SLTI dst src imm)) s)

/-- R85. -/
def execSltiu (dst src : UInt5) (imm : UInt12) (s : State) : Host.Outcome State Fault Refusal :=
  .next (deliver (.ok (.immArith .SLTIU dst src imm)) s)

/-- R86. -/
def execXori (dst src : UInt5) (imm : UInt12) (s : State) : Host.Outcome State Fault Refusal :=
  .next (deliver (.ok (.immArith .XORI dst src imm)) s)

/-- R87. -/
def execSrli (dst src shamt : UInt5) (s : State) : Host.Outcome State Fault Refusal :=
  .next (deliver (.ok (.immShift .SRLI dst src shamt)) s)

/-- R88. -/
def execSrai (dst src shamt : UInt5) (s : State) : Host.Outcome State Fault Refusal :=
  .next (deliver (.ok (.immShift .SRAI dst src shamt)) s)

/-- R89. -/
def execOri (dst src : UInt5) (imm : UInt12) (s : State) : Host.Outcome State Fault Refusal :=
  .next (deliver (.ok (.immArith .ORI dst src imm)) s)

/-- R90. -/
def execAndi (dst src : UInt5) (imm : UInt12) (s : State) : Host.Outcome State Fault Refusal :=
  .next (deliver (.ok (.immArith .ANDI dst src imm)) s)

end Sys2Proof.Machine
end

