-- ==== Sys2Proof/Machine/OpReg.lean ====
section
/-! DEFINITION. The fourteen register-register instructions (43_op_reg.md): the result carries the three specifiers; no arithmetic is done (30_encoding.md R56). -/

namespace Sys2Proof.Machine

/-- R93. -/
def execAdd (dst src1 src2 : UInt5) (s : State) : Host.Outcome State Fault Refusal :=
  .next (deliver (.ok (.regReg .ADD dst src1 src2)) s)

/-- R94. -/
def execSub (dst src1 src2 : UInt5) (s : State) : Host.Outcome State Fault Refusal :=
  .next (deliver (.ok (.regReg .SUB dst src1 src2)) s)

/-- R95. -/
def execMul (dst src1 src2 : UInt5) (s : State) : Host.Outcome State Fault Refusal :=
  .next (deliver (.ok (.regReg .MUL dst src1 src2)) s)

/-- R96. -/
def execSll (dst src1 src2 : UInt5) (s : State) : Host.Outcome State Fault Refusal :=
  .next (deliver (.ok (.regReg .SLL dst src1 src2)) s)

/-- R97. -/
def execSlt (dst src1 src2 : UInt5) (s : State) : Host.Outcome State Fault Refusal :=
  .next (deliver (.ok (.regReg .SLT dst src1 src2)) s)

/-- R98. -/
def execMulhsu (dst src1 src2 : UInt5) (s : State) : Host.Outcome State Fault Refusal :=
  .next (deliver (.ok (.regReg .MULHSU dst src1 src2)) s)

/-- R99. -/
def execSltu (dst src1 src2 : UInt5) (s : State) : Host.Outcome State Fault Refusal :=
  .next (deliver (.ok (.regReg .SLTU dst src1 src2)) s)

/-- R100. -/
def execMulhu (dst src1 src2 : UInt5) (s : State) : Host.Outcome State Fault Refusal :=
  .next (deliver (.ok (.regReg .MULHU dst src1 src2)) s)

/-- R101. -/
def execXor (dst src1 src2 : UInt5) (s : State) : Host.Outcome State Fault Refusal :=
  .next (deliver (.ok (.regReg .XOR dst src1 src2)) s)

/-- R102. -/
def execSrl (dst src1 src2 : UInt5) (s : State) : Host.Outcome State Fault Refusal :=
  .next (deliver (.ok (.regReg .SRL dst src1 src2)) s)

/-- R103. -/
def execSra (dst src1 src2 : UInt5) (s : State) : Host.Outcome State Fault Refusal :=
  .next (deliver (.ok (.regReg .SRA dst src1 src2)) s)

/-- R104. -/
def execMulh (dst src1 src2 : UInt5) (s : State) : Host.Outcome State Fault Refusal :=
  .next (deliver (.ok (.regReg .MULH dst src1 src2)) s)

/-- R105. -/
def execOr (dst src1 src2 : UInt5) (s : State) : Host.Outcome State Fault Refusal :=
  .next (deliver (.ok (.regReg .OR dst src1 src2)) s)

/-- R106. -/
def execAnd (dst src1 src2 : UInt5) (s : State) : Host.Outcome State Fault Refusal :=
  .next (deliver (.ok (.regReg .AND dst src1 src2)) s)

end Sys2Proof.Machine
end

