-- ==== Sys2Proof/Machine/Dispatch.lean ====
section
/-! DEFINITION. The dispatch: one arm per instruction, each a direct call of its meaning. -/

namespace Sys2Proof.Machine

def exec (i : Instr) (s : State) : Host.Outcome State Fault Refusal :=
  match i with
  | .addi dst src imm => Sys2Proof.Machine.execAddi dst src imm s
  | .slli dst src shamt => Sys2Proof.Machine.execSlli dst src shamt s
  | .slti dst src imm => Sys2Proof.Machine.execSlti dst src imm s
  | .sltiu dst src imm => Sys2Proof.Machine.execSltiu dst src imm s
  | .xori dst src imm => Sys2Proof.Machine.execXori dst src imm s
  | .srli dst src shamt => Sys2Proof.Machine.execSrli dst src shamt s
  | .srai dst src shamt => Sys2Proof.Machine.execSrai dst src shamt s
  | .ori dst src imm => Sys2Proof.Machine.execOri dst src imm s
  | .andi dst src imm => Sys2Proof.Machine.execAndi dst src imm s
  | .lw dst base offset => Sys2Proof.Machine.execLw dst base offset s
  | .sw src base offset => Sys2Proof.Machine.execSw src base offset s
  | .add dst src1 src2 => Sys2Proof.Machine.execAdd dst src1 src2 s
  | .sub dst src1 src2 => Sys2Proof.Machine.execSub dst src1 src2 s
  | .mul dst src1 src2 => Sys2Proof.Machine.execMul dst src1 src2 s
  | .sll dst src1 src2 => Sys2Proof.Machine.execSll dst src1 src2 s
  | .slt dst src1 src2 => Sys2Proof.Machine.execSlt dst src1 src2 s
  | .mulhsu dst src1 src2 => Sys2Proof.Machine.execMulhsu dst src1 src2 s
  | .sltu dst src1 src2 => Sys2Proof.Machine.execSltu dst src1 src2 s
  | .mulhu dst src1 src2 => Sys2Proof.Machine.execMulhu dst src1 src2 s
  | .xor dst src1 src2 => Sys2Proof.Machine.execXor dst src1 src2 s
  | .srl dst src1 src2 => Sys2Proof.Machine.execSrl dst src1 src2 s
  | .sra dst src1 src2 => Sys2Proof.Machine.execSra dst src1 src2 s
  | .mulh dst src1 src2 => Sys2Proof.Machine.execMulh dst src1 src2 s
  | .or dst src1 src2 => Sys2Proof.Machine.execOr dst src1 src2 s
  | .and dst src1 src2 => Sys2Proof.Machine.execAnd dst src1 src2 s
  | .nop => Sys2Proof.Machine.execNop s

end Sys2Proof.Machine
end

