-- ==== Sys2Proof/Machine/Step.lean ====
section
/-! DEFINITION. One step: the supplier presents a word, the slicer drives the field ports, and the decoded instruction's meaning, or
the Invalid outcome, delivers the result. One decode is one step with no duration (70_reset_and_hazards.md R136, R138). -/

namespace Sys2Proof.Machine

/-- One decode. An Invalid word gives a next state like any other (44_nop_invalid.md R108). -/
def step (s : State) : Host.Outcome State Fault Refusal :=
  let t := driveFields (present s)
  match decode t.instr with
  | .ok i => exec i t
  | .invalidInstruction w => .next (deliver (.invalid w) t)

/-- The state in which the very next step presents and runs the given word: it is put before the words the supplier has still to
present (log entry 3). -/
def State.withFetchWord (s : State) (nbits w : Nat) : State := { s with supply := tableWord nbits w :: s.supply }

end Sys2Proof.Machine
end

