-- ==== Sys2Proof/Machine/Environment.lean ====
section
/-! DEFINITION. The block's surroundings, with what the spec leaves OPEN as arguments (00_scope.md R7, 92_eei_decisions.md D9, D11 to D13).
None of it is part of the block, and step reads none of it. -/

namespace Sys2Proof.Machine

/-- A supplier assembling a word from four bytes, `b0` the one at the lowest address, in the order it uses: WORD_BYTE_ORDER (R26,
D9). That the order is one of two is the model's choice (log entry 12). -/
def wordOfBytes (order : ByteOrder) (b0 b1 b2 b3 : Byte) : Word :=
  match order with
  | .littleEndian => b3 ++ b2 ++ b1 ++ b0
  | .bigEndian => b0 ++ b1 ++ b2 ++ b3

/-- A supplier about to present the words `ws`, before what it has still to present (R32, 95_test_vectors.md Part 3). -/
def State.supplyWords (s : State) (ws : List Word) : State := { s with supply := ws ++ s.supply }

/-- A consumer taking one result, with its EXECUTE and its ON_INVALID as arguments: the spec gives them no body (D12, D13). -/
def consume {σ : Type} (execute : Decoded → σ → σ) (onInvalid : Word → σ → σ) (r : Result) (c : σ) : σ :=
  match r with
  | .ok d => execute d c
  | .invalid w => onInvalid w c

/-- A consumer that takes the result of each of `n` steps in turn: what a stream of words amounts to for it (95_test_vectors.md
Part 3, "the sequence of decode results"). -/
def observe {σ : Type} (execute : Decoded → σ → σ) (onInvalid : Word → σ → σ) : Nat → State → σ → σ
  | 0, _, c => c
  | n + 1, s, c =>
    match step s with
    | .next t => observe execute onInvalid n t (consume execute onInvalid t.result c)
    | .fault _ => c
    | .refused _ => c

/-- The location a consumer gives to a load's or a store's base and offset, with its CONSUMER_MEMORY_MAP as an argument: the block
reports the two fields and computes no address (R24, R29, D11). -/
def locationOf {α : Type} (memoryMap : UInt5 → UInt12 → α) : Decoded → Option α
  | .load _ _ base offset => some (memoryMap base offset)
  | .store _ _ base offset => some (memoryMap base offset)
  | .immShift _ _ _ _ => none
  | .immArith _ _ _ _ => none
  | .regReg _ _ _ _ => none
  | .noOperand _ => none

end Sys2Proof.Machine
end

