-- ==== Sys2Proof/Machine/Render.lean ====
section
/-! DEFINITION. The text rendering of a decode result (48_rendering.md). It is outside the block (R5 (f)) and reads nothing but the
result (R109); the source's worked examples are written in it. -/

namespace Sys2Proof.Machine

/-- The mnemonic's spelling in rendered text (R118). -/
def mnemonicName : Mnemonic → String
  | .ANDI => "ANDI"
  | .SLTIU => "SLTIU"
  | .SRLI => "SRLI"
  | .SLTI => "SLTI"
  | .SRAI => "SRAI"
  | .SLLI => "SLLI"
  | .ORI => "ORI"
  | .XORI => "XORI"
  | .ADDI => "ADDI"
  | .LW => "LW"
  | .AND => "AND"
  | .SLTU => "SLTU"
  | .MULH => "MULH"
  | .SRA => "SRA"
  | .XOR => "XOR"
  | .SUB => "SUB"
  | .SLT => "SLT"
  | .MULHSU => "MULHSU"
  | .MULHU => "MULHU"
  | .SRL => "SRL"
  | .SLL => "SLL"
  | .ADD => "ADD"
  | .MUL => "MUL"
  | .OR => "OR"
  | .SW => "SW"
  | .NOP => "NOP"

/-- An operand value, as an unsigned decimal integer with no leading zeros (R117; the spec's decision D8). -/
def decimal {n : Nat} (v : BitVec n) : String := v.toNat.repr

/-- One line per decoded instruction, by its shape (R110 to R115). -/
def renderDecoded : Decoded → String
  | .immShift mn d s sh => mnemonicName mn ++ " dst: " ++ decimal d ++ " src: " ++ decimal s ++ " shamt: " ++ decimal sh
  | .immArith mn d s i => mnemonicName mn ++ " dst: " ++ decimal d ++ " src: " ++ decimal s ++ " imm: " ++ decimal i
  | .regReg mn d s1 s2 => mnemonicName mn ++ " dst: " ++ decimal d ++ " src1: " ++ decimal s1 ++ " src2: " ++ decimal s2
  | .load mn d b o => mnemonicName mn ++ " dst: " ++ decimal d ++ " base: " ++ decimal b ++ " offset: " ++ decimal o
  | .store mn s b o => mnemonicName mn ++ " src: " ++ decimal s ++ " base: " ++ decimal b ++ " offset: " ++ decimal o
  | .noOperand mn => mnemonicName mn

/-- The text of a result; the same fixed line for every Invalid word, without the word (R109, R116; the spec's decision D7). No line
terminator is part of it (D8). -/
def render : Result → String
  | .ok d => renderDecoded d
  | .invalid _ => "Error - Invalid Instruction"

end Sys2Proof.Machine
end

