-- ==== Sys2Proof/WellFormed.lean ====
section
/-! DEFINITION. Which instructions a word can encode. Register specifiers, shift amounts and immediates take every value of
their width (10_state.md R15, 30_encoding.md R60); only LW and SW restrict an operand. -/

namespace Sys2Proof

/-- LW and SW only with base register zero (R15, R58), SW only with an offset in 0 to 1023 (R55); every other operand is free. -/
def Instr.wellFormed : Instr → Bool
  | .addi _ _ _ => true
  | .slli _ _ _ => true
  | .slti _ _ _ => true
  | .sltiu _ _ _ => true
  | .xori _ _ _ => true
  | .srli _ _ _ => true
  | .srai _ _ _ => true
  | .ori _ _ _ => true
  | .andi _ _ _ => true
  | .lw _ base _ => base == 0#5
  | .sw _ base offset => base == 0#5 && decide (offset.toNat ≤ 1023)
  | .add _ _ _ => true
  | .sub _ _ _ => true
  | .mul _ _ _ => true
  | .sll _ _ _ => true
  | .slt _ _ _ => true
  | .mulhsu _ _ _ => true
  | .sltu _ _ _ => true
  | .mulhu _ _ _ => true
  | .xor _ _ _ => true
  | .srl _ _ _ => true
  | .sra _ _ _ => true
  | .mulh _ _ _ => true
  | .or _ _ _ => true
  | .and _ _ _ => true
  | .nop => true

/-- A well-formed instruction is one that some word encodes. -/
abbrev Instr.WellFormed (i : Instr) : Prop := i.wellFormed = true

end Sys2Proof
end

