-- ==== Sys2Proof/Safety.lean ====
section
/-! DEFINITION. The terms in which claims about words, steps and runs are written. -/

namespace Sys2Proof.Machine

/-- The outputs are the function of the word now present at the input (10_state.md R22, 40_decode.md R80): the invariant of the
block, which holds at every instant. -/
def State.Coherent (s : State) : Prop := s.result = decodeResult s.instr ∧ s.ports = portsOf s.instr

/-- A safe run of `n` steps from `s`: it stops with no fault and no refusal (R74, R108). -/
def SafeFor (n : Nat) (s : State) : Prop := ∃ t : State, Sys2Proof.core.run n s = .next t

/-- The output ports with given codes and the raw slices of a word on the field ports (R67, R79). -/
def drives (valid : BitVec 1) (mnem : BitVec 5) (shape : BitVec 3) (w : Word) : OutPorts :=
  let f := slice w
  { valid := valid, mnem := mnem, shape := shape, opcode := f.opcode, funct3 := f.funct3, funct7 := f.funct7, rd := f.rd,
    rs1 := f.rs1, rs2 := f.rs2, immI := f.immI, storeOffset := f.storeOffset }

/-- A state with another result and other codes on `valid`, `mnem` and `shape`, and with everything else as it was: the input, the
field ports, the supply and the free-value counter. -/
def State.withOutputs (s : State) (r : Result) (valid : BitVec 1) (mnem : BitVec 5) (shape : BitVec 3) : State :=
  { s with result := r, ports := { s.ports with valid := valid, mnem := mnem, shape := shape } }

/-- The template of the rules R82 to R107 (41_op_imm.md, head). `selects` is the rule's condition on the fields, `value` the result
of its pseudocode, `examples` its corner cases and examples:
the rule's mask and match select exactly the words of its condition; on such a word the step goes on, with that result and those
ports; no other word drives the rule's mnemonic code; and each example is decoded to the given text. -/
def RuleHolds (code : BitVec 5) (shape : BitVec 3) (mat mask : Word) (selects : Fields → Prop) (value : Fields → Decoded)
    (examples : List (Word × String)) : Prop :=
  (∀ w : Word, w &&& mask = mat ↔ selects (slice w)) ∧
  (∀ s : State, selects (slice (nextWord s)) →
    ∃ t, step s = .next t ∧ t.instr = nextWord s ∧ t.result = .ok (value (slice (nextWord s))) ∧
      t.ports = drives 1 code shape (nextWord s)) ∧
  (∀ s t : State, step s = .next t → (t.ports.mnem = code ↔ selects (slice (nextWord s)))) ∧
  (∀ e ∈ examples, ∀ s : State, ∃ t, step (s.supplyWords [e.1]) = .next t ∧ render t.result = e.2)

end Sys2Proof.Machine
end

