-- ==== Sys2Proof/Certificates/Slice0/Obligations.lean ====
section
/-! DEFINITION. The statements for the provers, one `def Obligations.<Name> : Prop` each, in the order of OBLIGATIONS.json. -/

open Sys2Proof Sys2Proof.Machine

/-- O1. After reset every output is the function of the word then at the input (R22, R133). WHICH word that is, is the model's
choice (log entry 3) and is not stated. The last clause, the empty supply (nothing left to present), is the model's choice too
(log entry 3): R22 and R133 do not give it. -/
def Obligations.ResetOutputsFollowInput : Prop :=
  State.reset.result = decodeResult State.reset.instr ∧ State.reset.ports = portsOf State.reset.instr ∧ State.reset.supply = []

/-- O2. A step is exec of the decoded instruction, after the word is presented and the field ports are driven (R71, R46, R79). The
clauses on supply and undriven are about the model's own fields and are the model's choice (log entries 1 and 2). -/
def Obligations.StepRunsDecodedInstruction : Prop :=
  ∀ (s : State) (i : Instr), decode (nextWord s) = .ok i →
    ∃ t : State, step s = exec i t ∧ t.instr = nextWord s ∧ t.result = s.result ∧ t.supply = s.supply.tail ∧
      t.undriven = (if s.supply = [] then s.undriven + 1 else s.undriven) ∧
      t.ports = drives s.ports.valid s.ports.mnem s.ports.shape (nextWord s)

/-- O3. The word withFetchWord places is the word the next step decodes, and nothing else of the state is changed by placing it.
Where it is placed, and the clauses on supply and undriven, are the model's choice (log entries 1 to 3). -/
def Obligations.FetchWordIsRunNext : Prop :=
  ∀ (s : State) (w : Word), ∃ t, step (s.withFetchWord 32 w.toNat) = .next t ∧ t.instr = w ∧ t.result = decodeResult w ∧
    t.ports = portsOf w ∧ t.supply = s.supply ∧ t.undriven = s.undriven

/-- O4. A sanity statement: one word of each family, with its operands, from 95_test_vectors.md. -/
def Obligations.SampleWordsDecode : Prop :=
  decode 0x00510093 = .ok (.addi 1 2 5) ∧
  decode 0x01F65593 = .ok (.srli 11 12 31) ∧
  decode 0x02802603 = .ok (.lw 12 0 40) ∧
  decode 0x06402423 = .ok (.sw 4 0 104) ∧
  decode 0x003100B3 = .ok (.add 1 2 3) ∧
  decode 0x0328A833 = .ok (.mulhsu 16 17 18) ∧
  decode 0x1234567F = .ok (.nop) ∧
  decode 0x04000033 = .invalidInstruction 0x04000033

/-- O5. R35 to R39, R41, R42 and R44, as arithmetic on the word's number (bit 0 the least significant, R8). -/
def Obligations.SlicerFields : Prop :=
  ∀ w : Word,
    (slice w).opcode.toNat = w.toNat % 128 ∧
    (slice w).rd.toNat = w.toNat / 128 % 32 ∧
    (slice w).funct3.toNat = w.toNat / 4096 % 8 ∧
    (slice w).rs1.toNat = w.toNat / 32768 % 32 ∧
    (slice w).rs2.toNat = w.toNat / 1048576 % 32 ∧
    (slice w).funct7.toNat = w.toNat / 33554432 ∧
    (slice w).immI.toNat = w.toNat / 1048576 ∧
    (slice w).immSHi.toNat = w.toNat / 33554432 ∧
    (slice w).immSLo.toNat = w.toNat / 128 % 32 ∧
    (slice w).storeOffset.toNat = ((slice w).immSHi.toNat <<< 5) ||| (slice w).immSLo.toNat

/-- O6. The identities of R56, with R40 and R43, and that the six fields make up the word. -/
def Obligations.FieldIdentities : Prop :=
  ∀ w : Word, let f := slice w
    f.shamt = f.rs2 ∧ f.immSHi = f.funct7 ∧ f.immSLo = f.rd ∧
    f.immI.toNat = f.funct7.toNat * 32 + f.rs2.toNat ∧ f.storeOffset.toNat = f.funct7.toNat * 32 + f.rd.toNat ∧
    f.immI.toNat ≤ 4095 ∧ f.storeOffset.toNat ≤ 4095 ∧
    w.toNat = f.opcode.toNat + 128 * f.rd.toNat + 4096 * f.funct3.toNat + 32768 * f.rs1.toNat + 1048576 * f.rs2.toNat +
      33554432 * f.funct7.toNat

/-- O7. R46 and R79 (the spec's decision D5): the field ports, for every word. -/
def Obligations.FieldPortsAreRawSlices : Prop :=
  ∀ s t : State, step s = .next t →
    t.ports.opcode.toNat = (nextWord s).toNat % 128 ∧
    t.ports.rd.toNat = (nextWord s).toNat / 128 % 32 ∧
    t.ports.funct3.toNat = (nextWord s).toNat / 4096 % 8 ∧
    t.ports.rs1.toNat = (nextWord s).toNat / 32768 % 32 ∧
    t.ports.rs2.toNat = (nextWord s).toNat / 1048576 % 32 ∧
    t.ports.funct7.toNat = (nextWord s).toNat / 33554432 ∧
    t.ports.immI.toNat = (nextWord s).toNat / 1048576 ∧
    t.ports.storeOffset.toNat = (nextWord s).toNat / 33554432 * 32 + (nextWord s).toNat / 128 % 32

/-- O8. R59: the mask and match form of the predicate table. -/
def Obligations.PredicateIsMaskMatch : Prop :=
  ∀ (mn : Mnemonic) (w : Word), predicate mn w = true ↔ w &&& maskOf mn = matchOf mn

/-- O9. R60, class by class, on bit ranges written out. -/
def Obligations.UnreadBitsAreIgnored : Prop :=
  ∀ v w : Word, v.extractLsb' 0 7 = w.extractLsb' 0 7 →
    predicate .NOP v = predicate .NOP w ∧
    (v.extractLsb' 12 3 = w.extractLsb' 12 3 →
      (∀ mn ∈ [Mnemonic.ADDI, .SLTI, .SLTIU, .XORI, .ORI, .ANDI], predicate mn v = predicate mn w) ∧
      (v.extractLsb' 25 7 = w.extractLsb' 25 7 →
        (∀ mn ∈ [Mnemonic.SLLI, .SRLI, .SRAI, .ADD, .SUB, .MUL, .SLL, .SLT, .MULHSU], predicate mn v = predicate mn w) ∧
        (∀ mn ∈ [Mnemonic.SLTU, .MULHU, .XOR, .SRL, .SRA, .MULH, .OR, .AND], predicate mn v = predicate mn w))) ∧
    (v.extractLsb' 12 8 = w.extractLsb' 12 8 →
      predicate .LW v = predicate .LW w ∧
      (v.extractLsb' 30 2 = w.extractLsb' 30 2 → predicate .SW v = predicate .SW w))

/-- O10. R61: the predicates are pairwise mutually exclusive. -/
def Obligations.PredicatesExclusive : Prop :=
  ∀ (w : Word) (m n : Mnemonic), predicate m w = true → predicate n w = true → m = n

/-- O11. R62: cases (a) to (f), in its order. -/
def Obligations.InvalidSpace : Prop :=
  ∀ s t : State, step s = .next t →
    let w := nextWord s
    let f := slice w
    (t.result = .invalid w ↔
      ¬ (f.opcode = 0b0010011#7 ∨ f.opcode = 0b0000011#7 ∨ f.opcode = 0b0100011#7 ∨ f.opcode = 0b0110011#7 ∨ f.opcode = 0b1111111#7) ∨
      (f.opcode = 0b0010011#7 ∧ f.funct3 = 0b001#3 ∧ f.funct7 ≠ 0b0000000#7) ∨
      (f.opcode = 0b0010011#7 ∧ f.funct3 = 0b101#3 ∧ f.funct7 ≠ 0b0000000#7 ∧ f.funct7 ≠ 0b0100000#7) ∨
      (f.opcode = 0b0000011#7 ∧ (f.funct3 ≠ 0b010#3 ∨ f.rs1 ≠ 0#5)) ∨
      (f.opcode = 0b0100011#7 ∧ (f.funct3 ≠ 0b010#3 ∨ f.rs1 ≠ 0#5 ∨ w.extractLsb' 30 2 ≠ 0b00#2)) ∨
      (f.opcode = 0b0110011#7 ∧
        ((f.funct7 ≠ 0b0000000#7 ∧ f.funct7 ≠ 0b0100000#7 ∧ f.funct7 ≠ 0b0000001#7) ∨
         (f.funct7 = 0b0100000#7 ∧ f.funct3 ≠ 0b000#3 ∧ f.funct3 ≠ 0b101#3) ∨
         (f.funct7 = 0b0000001#7 ∧ (f.funct3 = 0b100#3 ∨ f.funct3 = 0b101#3 ∨ f.funct3 = 0b110#3 ∨ f.funct3 = 0b111#3)))))

/-- O12. R34: no compressed form is recognised. -/
def Obligations.LowBitsNotAllOnesIsInvalid : Prop :=
  ∀ s : State, (nextWord s).toNat % 4 ≠ 3 → ∃ t, step s = .next t ∧ t.result = .invalid (nextWord s)

/-- O13. R65: the size of each class and the two totals. -/
def Obligations.ClassSizes : Prop :=
  (∀ mn ∈ [Mnemonic.ADDI, .SLTI, .SLTIU, .XORI, .ORI, .ANDI], Nat.card {w : Word // predicate mn w = true} = 4194304) ∧
  (∀ mn : Mnemonic, shapeOf mn = .immShift ∨ shapeOf mn = .store ∨ shapeOf mn = .regReg →
    Nat.card {w : Word // predicate mn w = true} = 32768) ∧
  Nat.card {w : Word // predicate .LW w = true} = 131072 ∧
  Nat.card {w : Word // predicate .NOP w = true} = 33554432 ∧
  Nat.card {w : Word // ∃ d, decodeResult w = .ok d} = 59441152 ∧
  Nat.card {w : Word // decodeResult w = .invalid w} = 4235526144

/-- O14. R73: first match gives the same in every order. -/
def Obligations.PriorityOrderUnobservable : Prop :=
  ∀ (order : List Mnemonic) (w : Word), order.Perm priority → classifyIn order w = classify w

/-- O15. R71 (with the order of R72, the spec's decision D6): the machine's decoder and meanings compute the decode function as
R71 writes it. -/
def Obligations.StepComputesDecode : Prop :=
  ∀ s : State, ∃ t, step s = .next t ∧ t.instr = nextWord s ∧ t.result = decodeResult (nextWord s)

/-- O16. R70: the table of the operand assembler, on the machine's step. -/
def Obligations.StepAssemblesOperands : Prop :=
  ∀ (s : State) (mn : Mnemonic), predicate mn (nextWord s) = true →
    let f := slice (nextWord s)
    ∃ t, step s = .next t ∧ t.result = .ok (match shapeOf mn with
      | .immShift => .immShift mn f.rd f.rs1 f.shamt
      | .immArith => .immArith mn f.rd f.rs1 f.immI
      | .regReg => .regReg mn f.rd f.rs1 f.rs2
      | .load => .load mn f.rd f.rs1 f.immI
      | .store => .store mn f.rs2 f.rs1 f.storeOffset
      | .noOperand => .noOperand mn)

/-- O17. R74 (totality and determinism) and R75 (all or nothing). -/
def Obligations.DecodeTotalAllOrNothing : Prop :=
  ∀ s : State, ∃ t, step s = .next t ∧
    ((∃ mn, predicate mn (nextWord s) = true ∧ (∀ n, predicate n (nextWord s) = true → n = mn) ∧
        t.result = .ok (assemble mn (slice (nextWord s)))) ∨
     ((∀ n, predicate n (nextWord s) = false) ∧ t.result = .invalid (nextWord s))) ∧
    ∀ u, step s = .next u → u = t

/-- O18. Round trip over the layouts R47 to R52, in both directions of well-formedness. The encoder is the model's own choice (log
entry 11; the spec has none, R66): so is the word the second clause rejects, which it writes for an ill-formed LW or SW. -/
def Obligations.DecodeEncode : Prop :=
  ∀ i : Instr, (i.WellFormed → decode (encode i) = .ok i) ∧
    (¬ i.WellFormed → decode (encode i) = .invalidInstruction (encode i))

/-- O19. The other direction of the round trip; NOP's ignored bits [31:7] are the one exception (R52; log entry 11). -/
def Obligations.EncodeDecode : Prop :=
  ∀ (w : Word) (i : Instr), decode w = .ok i →
    i.WellFormed ∧ predicate i.mnemonic w = true ∧
    (i ≠ .nop → encode i = w) ∧ (i = .nop → (encode i).extractLsb' 0 7 = w.extractLsb' 0 7)

/-- O20. The invariant of the block (R22, R80): every step goes on, and the invariant holds after it, from every state, whether or
not it held before. -/
def Obligations.EveryStepIsCoherent : Prop :=
  ∀ s : State, (∃ t, step s = .next t) ∧ ∀ t, step s = .next t → t.Coherent

/-- O21. R14, R19, R21, R30: the block keeps nothing of any word decoded before. -/
def Obligations.StatelessDecode : Prop :=
  ∀ s s' t t' : State, nextWord s = nextWord s' → step s = .next t → step s' = .next t' →
    t.instr = t'.instr ∧ t.result = t'.result ∧ t.ports = t'.ports

/-- O22. 95_test_vectors.md Part 3: the output for word k depends only on word k, and the ports after the last word carry that
word's decode. The clauses on supply and undriven are about the model's own fields and are the model's choice (log entries 1 and
2). -/
def Obligations.WordsAreDecodedInOrder : Prop :=
  ∀ (s : State) (ws : List Word) (k : Nat) (hk : k < ws.length),
    ∃ t : State, Sys2Proof.core.run (k + 1) (s.supplyWords ws) = .next t ∧ t.instr = ws[k] ∧ t.result = decodeResult ws[k] ∧
      t.ports = portsOf ws[k] ∧ t.supply = ws.drop (k + 1) ++ s.supply ∧ t.undriven = s.undriven

/-- O23. R108 and R121: Invalid is an ordinary result and the block goes on; no other condition stops it (R120). -/
def Obligations.NoRunEverStops : Prop :=
  ∀ (n : Nat) (s : State), SafeFor n s

/-- O24. R81 as a reading function: no result is lost on the ports. -/
def Obligations.ResultIsReadOffThePorts : Prop :=
  ∀ s t : State, step s = .next t → readPorts t.ports t.instr = some t.result

/-- O25. R81, its seven equivalences, on the machine's step. The codes are the spec's decisions D3 and D4. -/
def Obligations.PortsCorrespondToResult : Prop :=
  ∀ s t : State, step s = .next t → ∀ (mn : Mnemonic) (a b c : UInt5) (o : UInt12),
    (t.result = .ok (.immShift mn a b c) ↔ t.ports.valid = 1 ∧ t.ports.mnem = mnemonicCode mn ∧ t.ports.shape = 0 ∧
      t.ports.rd = a ∧ t.ports.rs1 = b ∧ t.ports.rs2 = c) ∧
    (t.result = .ok (.immArith mn a b o) ↔ t.ports.valid = 1 ∧ t.ports.mnem = mnemonicCode mn ∧ t.ports.shape = 1 ∧
      t.ports.rd = a ∧ t.ports.rs1 = b ∧ t.ports.immI = o) ∧
    (t.result = .ok (.regReg mn a b c) ↔ t.ports.valid = 1 ∧ t.ports.mnem = mnemonicCode mn ∧ t.ports.shape = 2 ∧
      t.ports.rd = a ∧ t.ports.rs1 = b ∧ t.ports.rs2 = c) ∧
    (t.result = .ok (.load mn a b o) ↔ t.ports.valid = 1 ∧ t.ports.mnem = mnemonicCode mn ∧ t.ports.shape = 3 ∧
      t.ports.rd = a ∧ t.ports.rs1 = b ∧ t.ports.immI = o) ∧
    (t.result = .ok (.store mn a b o) ↔ t.ports.valid = 1 ∧ t.ports.mnem = mnemonicCode mn ∧ t.ports.shape = 4 ∧
      t.ports.rs2 = a ∧ t.ports.rs1 = b ∧ t.ports.storeOffset = o) ∧
    (t.result = .ok (.noOperand mn) ↔ t.ports.valid = 1 ∧ t.ports.mnem = mnemonicCode mn ∧ t.ports.shape = 5) ∧
    (t.result = .invalid t.instr ↔ t.ports.valid = 0 ∧ t.ports.mnem = 31 ∧ t.ports.shape = 7)

/-- O26. R76 to R78 (the spec's decisions D2 to D4), with the one shape of each mnemonic (R69). -/
def Obligations.CodesDriven : Prop :=
  ∀ s t : State, step s = .next t →
    (t.ports.valid = 1 ↔ ∃ d, t.result = .ok d) ∧ (t.ports.valid = 0 ↔ t.result = .invalid t.instr) ∧
    (∀ d, t.result = .ok d → t.ports.mnem = mnemonicCode d.mnemonic ∧ t.ports.shape = shapeCode d.shape ∧
      d.shape = shapeOf d.mnemonic) ∧
    (t.ports.valid = 1 → t.ports.mnem.toNat ≤ 25 ∧ t.ports.shape.toNat ≤ 5) ∧
    (t.ports.valid = 0 → t.ports.mnem = 31 ∧ t.ports.shape = 7)

/-- O27. R77 and R78 (the spec's decisions D3 and D4). -/
def Obligations.CodesAreDistinct : Prop :=
  (∀ m n : Mnemonic, mnemonicCode m = mnemonicCode n → m = n) ∧ (∀ a b : Shape, shapeCode a = shapeCode b → a = b) ∧
  priority.map (fun m => (mnemonicCode m).toNat) = List.range Config.mnemonicCount

/-- O28. Completion and frame of ADDI, SLTI, SLTIU, XORI, ORI, ANDI: nothing but the result and the three code ports changes
(codes: the spec's decisions D3, D4). -/
def Obligations.ImmArithCompletes : Prop :=
  ∀ (s : State) (dst src : UInt5) (imm : UInt12),
    exec (.addi dst src imm) s = .next (s.withOutputs (.ok (.immArith .ADDI dst src imm)) 1 8 1) ∧
    exec (.slti dst src imm) s = .next (s.withOutputs (.ok (.immArith .SLTI dst src imm)) 1 3 1) ∧
    exec (.sltiu dst src imm) s = .next (s.withOutputs (.ok (.immArith .SLTIU dst src imm)) 1 1 1) ∧
    exec (.xori dst src imm) s = .next (s.withOutputs (.ok (.immArith .XORI dst src imm)) 1 7 1) ∧
    exec (.ori dst src imm) s = .next (s.withOutputs (.ok (.immArith .ORI dst src imm)) 1 6 1) ∧
    exec (.andi dst src imm) s = .next (s.withOutputs (.ok (.immArith .ANDI dst src imm)) 1 0 1)

/-- O29. Completion and frame of SLLI, SRLI, SRAI: nothing but the result and the three code ports changes (codes: the spec's
decisions D3, D4). -/
def Obligations.ImmShiftCompletes : Prop :=
  ∀ (s : State) (dst src shamt : UInt5),
    exec (.slli dst src shamt) s = .next (s.withOutputs (.ok (.immShift .SLLI dst src shamt)) 1 5 0) ∧
    exec (.srli dst src shamt) s = .next (s.withOutputs (.ok (.immShift .SRLI dst src shamt)) 1 2 0) ∧
    exec (.srai dst src shamt) s = .next (s.withOutputs (.ok (.immShift .SRAI dst src shamt)) 1 4 0)

/-- O30. Completion and frame of LW, SW: nothing but the result and the three code ports changes (codes: the spec's decisions D3,
D4). Operands no word gives (a nonzero base, an SW offset above 1023; R91, R92) are covered as well: that exec delivers them as it
is given them is the model's choice (log entry 14). -/
def Obligations.LoadStoreCompletes : Prop :=
  (∀ (s : State) (dst base : UInt5) (offset : UInt12),
    exec (.lw dst base offset) s = .next (s.withOutputs (.ok (.load .LW dst base offset)) 1 9 3)) ∧
  (∀ (s : State) (src base : UInt5) (offset : UInt12),
    exec (.sw src base offset) s = .next (s.withOutputs (.ok (.store .SW src base offset)) 1 24 4))

/-- O31. Completion and frame of ADD, SUB, SLL, SLT, SLTU, XOR, SRL, SRA, OR, AND: nothing but the result and the three code ports
changes (codes: the spec's decisions D3, D4). -/
def Obligations.RegRegCompletes : Prop :=
  ∀ (s : State) (dst src1 src2 : UInt5),
    exec (.add dst src1 src2) s = .next (s.withOutputs (.ok (.regReg .ADD dst src1 src2)) 1 21 2) ∧
    exec (.sub dst src1 src2) s = .next (s.withOutputs (.ok (.regReg .SUB dst src1 src2)) 1 15 2) ∧
    exec (.sll dst src1 src2) s = .next (s.withOutputs (.ok (.regReg .SLL dst src1 src2)) 1 20 2) ∧
    exec (.slt dst src1 src2) s = .next (s.withOutputs (.ok (.regReg .SLT dst src1 src2)) 1 16 2) ∧
    exec (.sltu dst src1 src2) s = .next (s.withOutputs (.ok (.regReg .SLTU dst src1 src2)) 1 11 2) ∧
    exec (.xor dst src1 src2) s = .next (s.withOutputs (.ok (.regReg .XOR dst src1 src2)) 1 14 2) ∧
    exec (.srl dst src1 src2) s = .next (s.withOutputs (.ok (.regReg .SRL dst src1 src2)) 1 19 2) ∧
    exec (.sra dst src1 src2) s = .next (s.withOutputs (.ok (.regReg .SRA dst src1 src2)) 1 13 2) ∧
    exec (.or dst src1 src2) s = .next (s.withOutputs (.ok (.regReg .OR dst src1 src2)) 1 23 2) ∧
    exec (.and dst src1 src2) s = .next (s.withOutputs (.ok (.regReg .AND dst src1 src2)) 1 10 2)

/-- O32. Completion and frame of MUL, MULH, MULHSU, MULHU: nothing but the result and the three code ports changes (codes: the
spec's decisions D3, D4). -/
def Obligations.MultiplyCompletes : Prop :=
  ∀ (s : State) (dst src1 src2 : UInt5),
    exec (.mul dst src1 src2) s = .next (s.withOutputs (.ok (.regReg .MUL dst src1 src2)) 1 22 2) ∧
    exec (.mulh dst src1 src2) s = .next (s.withOutputs (.ok (.regReg .MULH dst src1 src2)) 1 12 2) ∧
    exec (.mulhsu dst src1 src2) s = .next (s.withOutputs (.ok (.regReg .MULHSU dst src1 src2)) 1 17 2) ∧
    exec (.mulhu dst src1 src2) s = .next (s.withOutputs (.ok (.regReg .MULHU dst src1 src2)) 1 18 2)

/-- O33. Completion and frame of NOP: nothing but the result and the three code ports changes (codes: the spec's decisions D3,
D4). -/
def Obligations.NopCompletes : Prop :=
  ∀ s : State,
    exec (.nop) s = .next (s.withOutputs (.ok (.noOperand .NOP)) 1 25 5)

/-- O34. R82, R84, R85, R86, R89, R90: the whole rule of each (the codes are the spec's decisions D3 and D4, the format of the
examples' texts its decisions D7 and D8: log entries 5 and 8). -/
def Obligations.ImmArithRules : Prop :=
  RuleHolds 8 1 0x00000013 0x0000707F
    (fun f => f.opcode = 0b0010011#7 ∧ f.funct3 = 0b000#3)
    (fun f => .immArith .ADDI f.rd f.rs1 f.immI)
    [(0xFFF00013, "ADDI dst: 0 src: 0 imm: 4095"),
     (0x80000013, "ADDI dst: 0 src: 0 imm: 2048"),
     (0x00000013, "ADDI dst: 0 src: 0 imm: 0"),
     (0x00510093, "ADDI dst: 1 src: 2 imm: 5")] ∧
  RuleHolds 3 1 0x00002013 0x0000707F
    (fun f => f.opcode = 0b0010011#7 ∧ f.funct3 = 0b010#3)
    (fun f => .immArith .SLTI f.rd f.rs1 f.immI)
    [(0xFFF0A093, "SLTI dst: 1 src: 1 imm: 4095"),
     (0x06432293, "SLTI dst: 5 src: 6 imm: 100")] ∧
  RuleHolds 1 1 0x00003013 0x0000707F
    (fun f => f.opcode = 0b0010011#7 ∧ f.funct3 = 0b011#3)
    (fun f => .immArith .SLTIU f.rd f.rs1 f.immI)
    [(0xFFF03013, "SLTIU dst: 0 src: 0 imm: 4095"),
     (0x00143393, "SLTIU dst: 7 src: 8 imm: 1")] ∧
  RuleHolds 7 1 0x00004013 0x0000707F
    (fun f => f.opcode = 0b0010011#7 ∧ f.funct3 = 0b100#3)
    (fun f => .immArith .XORI f.rd f.rs1 f.immI)
    [(0xFFF54493, "XORI dst: 9 src: 10 imm: 4095"),
     (0x0FF54493, "XORI dst: 9 src: 10 imm: 255")] ∧
  RuleHolds 6 1 0x00006013 0x0000707F
    (fun f => f.opcode = 0b0010011#7 ∧ f.funct3 = 0b110#3)
    (fun f => .immArith .ORI f.rd f.rs1 f.immI)
    [(0x80006013, "ORI dst: 0 src: 0 imm: 2048"),
     (0x55586793, "ORI dst: 15 src: 16 imm: 1365")] ∧
  RuleHolds 0 1 0x00007013 0x0000707F
    (fun f => f.opcode = 0b0010011#7 ∧ f.funct3 = 0b111#3)
    (fun f => .immArith .ANDI f.rd f.rs1 f.immI)
    [(0x00007013, "ANDI dst: 0 src: 0 imm: 0"),
     (0xFFF97893, "ANDI dst: 17 src: 18 imm: 4095")]

/-- O35. R83, R87, R88: the whole rule of each (the codes are the spec's decisions D3 and D4, the format of the examples' texts
its decisions D7 and D8: log entries 5 and 8). -/
def Obligations.ImmShiftRules : Prop :=
  RuleHolds 5 0 0x00001013 0xFE00707F
    (fun f => f.opcode = 0b0010011#7 ∧ f.funct3 = 0b001#3 ∧ f.funct7 = 0b0000000#7)
    (fun f => .immShift .SLLI f.rd f.rs1 f.shamt)
    [(0x02001013, "Error - Invalid Instruction"),
     (0x40001013, "Error - Invalid Instruction"),
     (0x00721193, "SLLI dst: 3 src: 4 shamt: 7"),
     (0x00001413, "SLLI dst: 8 src: 0 shamt: 0")] ∧
  RuleHolds 2 0 0x00005013 0xFE00707F
    (fun f => f.opcode = 0b0010011#7 ∧ f.funct3 = 0b101#3 ∧ f.funct7 = 0b0000000#7)
    (fun f => .immShift .SRLI f.rd f.rs1 f.shamt)
    [(0x42005013, "Error - Invalid Instruction"),
     (0xC0005013, "Error - Invalid Instruction"),
     (0x00005413, "SRLI dst: 8 src: 0 shamt: 0"),
     (0x01F65593, "SRLI dst: 11 src: 12 shamt: 31")] ∧
  RuleHolds 4 0 0x40005013 0xFE00707F
    (fun f => f.opcode = 0b0010011#7 ∧ f.funct3 = 0b101#3 ∧ f.funct7 = 0b0100000#7)
    (fun f => .immShift .SRAI f.rd f.rs1 f.shamt)
    [(0x41F0D693, "SRAI dst: 13 src: 1 shamt: 31"),
     (0x42005013, "Error - Invalid Instruction"),
     (0x40005413, "SRAI dst: 8 src: 0 shamt: 0"),
     (0x40175693, "SRAI dst: 13 src: 14 shamt: 1")]

/-- O36. R91, R92: the whole rule of each (the codes are the spec's decisions D3 and D4, the format of the examples' texts its
decisions D7 and D8: log entries 5 and 8). -/
def Obligations.LoadStoreRules : Prop :=
  RuleHolds 9 3 0x00002003 0x000FF07F
    (fun f => f.opcode = 0b0000011#7 ∧ f.funct3 = 0b010#3 ∧ f.rs1 = 0#5)
    (fun f => .load .LW f.rd f.rs1 f.immI)
    [(0x00412083, "Error - Invalid Instruction"),
     (0x00012003, "Error - Invalid Instruction"),
     (0x00001003, "Error - Invalid Instruction"),
     (0x00004003, "Error - Invalid Instruction"),
     (0x00000003, "Error - Invalid Instruction"),
     (0xFFF02003, "LW dst: 0 base: 0 offset: 4095"),
     (0x00102003, "LW dst: 0 base: 0 offset: 1"),
     (0x00002003, "LW dst: 0 base: 0 offset: 0"),
     (0x02802603, "LW dst: 12 base: 0 offset: 40"),
     (0x06802e03, "LW dst: 28 base: 0 offset: 104")] ∧
  RuleHolds 24 4 0x00002023 0xC00FF07F
    (fun f => f.opcode = 0b0100011#7 ∧ f.funct3 = 0b010#3 ∧ f.rs1 = 0#5 ∧ f.funct7.extractLsb' 5 2 = 0b00#2)
    (fun f => .store .SW f.rs2 f.rs1 f.storeOffset)
    [(0x40002023, "Error - Invalid Instruction"),
     (0x80002023, "Error - Invalid Instruction"),
     (0x7E002FA3, "Error - Invalid Instruction"),
     (0x3E002FA3, "SW src: 0 base: 0 offset: 1023"),
     (0x00012023, "Error - Invalid Instruction"),
     (0x00001023, "Error - Invalid Instruction"),
     (0x00000023, "Error - Invalid Instruction"),
     (0x000020A3, "SW src: 0 base: 0 offset: 1"),
     (0x06402423, "SW src: 4 base: 0 offset: 104"),
     (0x00602623, "SW src: 6 base: 0 offset: 12")]

/-- O37. R93, R94, R96, R97, R99, R101, R102, R103, R105, R106: the whole rule of each (the codes are the spec's decisions D3 and
D4, the format of the examples' texts its decisions D7 and D8: log entries 5 and 8). -/
def Obligations.RegRegRules : Prop :=
  RuleHolds 21 2 0x00000033 0xFE00707F
    (fun f => f.opcode = 0b0110011#7 ∧ f.funct3 = 0b000#3 ∧ f.funct7 = 0b0000000#7)
    (fun f => .regReg .ADD f.rd f.rs1 f.rs2)
    [(0x04000033, "Error - Invalid Instruction"),
     (0x00000033, "ADD dst: 0 src1: 0 src2: 0"),
     (0x001080B3, "ADD dst: 1 src1: 1 src2: 1"),
     (0x01FF8FB3, "ADD dst: 31 src1: 31 src2: 31"),
     (0x003100B3, "ADD dst: 1 src1: 2 src2: 3")] ∧
  RuleHolds 15 2 0x40000033 0xFE00707F
    (fun f => f.opcode = 0b0110011#7 ∧ f.funct3 = 0b000#3 ∧ f.funct7 = 0b0100000#7)
    (fun f => .regReg .SUB f.rd f.rs1 f.rs2)
    [(0x40000033, "SUB dst: 0 src1: 0 src2: 0"),
     (0x40210133, "SUB dst: 2 src1: 2 src2: 2"),
     (0x42000033, "Error - Invalid Instruction"),
     (0x40628233, "SUB dst: 4 src1: 5 src2: 6")] ∧
  RuleHolds 20 2 0x00001033 0xFE00707F
    (fun f => f.opcode = 0b0110011#7 ∧ f.funct3 = 0b001#3 ∧ f.funct7 = 0b0000000#7)
    (fun f => .regReg .SLL f.rd f.rs1 f.rs2)
    [(0x00001033, "SLL dst: 0 src1: 0 src2: 0"),
     (0x00421233, "SLL dst: 4 src1: 4 src2: 4"),
     (0x40001033, "Error - Invalid Instruction"),
     (0x00C59533, "SLL dst: 10 src1: 11 src2: 12")] ∧
  RuleHolds 16 2 0x00002033 0xFE00707F
    (fun f => f.opcode = 0b0110011#7 ∧ f.funct3 = 0b010#3 ∧ f.funct7 = 0b0000000#7)
    (fun f => .regReg .SLT f.rd f.rs1 f.rs2)
    [(0x00002033, "SLT dst: 0 src1: 0 src2: 0"),
     (0x0052A2B3, "SLT dst: 5 src1: 5 src2: 5"),
     (0x40002033, "Error - Invalid Instruction"),
     (0x00F726B3, "SLT dst: 13 src1: 14 src2: 15")] ∧
  RuleHolds 11 2 0x00003033 0xFE00707F
    (fun f => f.opcode = 0b0110011#7 ∧ f.funct3 = 0b011#3 ∧ f.funct7 = 0b0000000#7)
    (fun f => .regReg .SLTU f.rd f.rs1 f.rs2)
    [(0x00003033, "SLTU dst: 0 src1: 0 src2: 0"),
     (0x0073B3B3, "SLTU dst: 7 src1: 7 src2: 7"),
     (0x40003033, "Error - Invalid Instruction"),
     (0x015A39B3, "SLTU dst: 19 src1: 20 src2: 21")] ∧
  RuleHolds 14 2 0x00004033 0xFE00707F
    (fun f => f.opcode = 0b0110011#7 ∧ f.funct3 = 0b100#3 ∧ f.funct7 = 0b0000000#7)
    (fun f => .regReg .XOR f.rd f.rs1 f.rs2)
    [(0x00004033, "XOR dst: 0 src1: 0 src2: 0"),
     (0x0094C4B3, "XOR dst: 9 src1: 9 src2: 9"),
     (0x02004033, "Error - Invalid Instruction"),
     (0x40004033, "Error - Invalid Instruction"),
     (0x01BD4CB3, "XOR dst: 25 src1: 26 src2: 27")] ∧
  RuleHolds 19 2 0x00005033 0xFE00707F
    (fun f => f.opcode = 0b0110011#7 ∧ f.funct3 = 0b101#3 ∧ f.funct7 = 0b0000000#7)
    (fun f => .regReg .SRL f.rd f.rs1 f.rs2)
    [(0x00005033, "SRL dst: 0 src1: 0 src2: 0"),
     (0x00A55533, "SRL dst: 10 src1: 10 src2: 10"),
     (0x02005033, "Error - Invalid Instruction"),
     (0x01EEDE33, "SRL dst: 28 src1: 29 src2: 30")] ∧
  RuleHolds 13 2 0x40005033 0xFE00707F
    (fun f => f.opcode = 0b0110011#7 ∧ f.funct3 = 0b101#3 ∧ f.funct7 = 0b0100000#7)
    (fun f => .regReg .SRA f.rd f.rs1 f.rs2)
    [(0x40005033, "SRA dst: 0 src1: 0 src2: 0"),
     (0x40B5D5B3, "SRA dst: 11 src1: 11 src2: 11"),
     (0x4020DFB3, "SRA dst: 31 src1: 1 src2: 2")] ∧
  RuleHolds 23 2 0x00006033 0xFE00707F
    (fun f => f.opcode = 0b0110011#7 ∧ f.funct3 = 0b110#3 ∧ f.funct7 = 0b0000000#7)
    (fun f => .regReg .OR f.rd f.rs1 f.rs2)
    [(0x00006033, "OR dst: 0 src1: 0 src2: 0"),
     (0x00D6E6B3, "OR dst: 13 src1: 13 src2: 13"),
     (0x02006033, "Error - Invalid Instruction"),
     (0x0083E333, "OR dst: 6 src1: 7 src2: 8")] ∧
  RuleHolds 10 2 0x00007033 0xFE00707F
    (fun f => f.opcode = 0b0110011#7 ∧ f.funct3 = 0b111#3 ∧ f.funct7 = 0b0000000#7)
    (fun f => .regReg .AND f.rd f.rs1 f.rs2)
    [(0x00007033, "AND dst: 0 src1: 0 src2: 0"),
     (0x00E77733, "AND dst: 14 src1: 14 src2: 14"),
     (0x01FFFFB3, "AND dst: 31 src1: 31 src2: 31"),
     (0x02007033, "Error - Invalid Instruction"),
     (0x40007033, "Error - Invalid Instruction"),
     (0x00B574B3, "AND dst: 9 src1: 10 src2: 11")]

/-- O38. R95, R104, R98, R100: the whole rule of each (the codes are the spec's decisions D3 and D4, the format of the examples'
texts its decisions D7 and D8: log entries 5 and 8). -/
def Obligations.MultiplyRules : Prop :=
  RuleHolds 22 2 0x02000033 0xFE00707F
    (fun f => f.opcode = 0b0110011#7 ∧ f.funct3 = 0b000#3 ∧ f.funct7 = 0b0000001#7)
    (fun f => .regReg .MUL f.rd f.rs1 f.rs2)
    [(0x02000033, "MUL dst: 0 src1: 0 src2: 0"),
     (0x023181B3, "MUL dst: 3 src1: 3 src2: 3"),
     (0x02004033, "Error - Invalid Instruction"),
     (0x029403B3, "MUL dst: 7 src1: 8 src2: 9")] ∧
  RuleHolds 12 2 0x02001033 0xFE00707F
    (fun f => f.opcode = 0b0110011#7 ∧ f.funct3 = 0b001#3 ∧ f.funct7 = 0b0000001#7)
    (fun f => .regReg .MULH f.rd f.rs1 f.rs2)
    [(0x02001033, "MULH dst: 0 src1: 0 src2: 0"),
     (0x02C61633, "MULH dst: 12 src1: 12 src2: 12"),
     (0x03FF9FB3, "MULH dst: 31 src1: 31 src2: 31"),
     (0x025211B3, "MULH dst: 3 src1: 4 src2: 5")] ∧
  RuleHolds 17 2 0x02002033 0xFE00707F
    (fun f => f.opcode = 0b0110011#7 ∧ f.funct3 = 0b010#3 ∧ f.funct7 = 0b0000001#7)
    (fun f => .regReg .MULHSU f.rd f.rs1 f.rs2)
    [(0x02002033, "MULHSU dst: 0 src1: 0 src2: 0"),
     (0x02632333, "MULHSU dst: 6 src1: 6 src2: 6"),
     (0x03FFAFB3, "MULHSU dst: 31 src1: 31 src2: 31"),
     (0x0328A833, "MULHSU dst: 16 src1: 17 src2: 18")] ∧
  RuleHolds 18 2 0x02003033 0xFE00707F
    (fun f => f.opcode = 0b0110011#7 ∧ f.funct3 = 0b011#3 ∧ f.funct7 = 0b0000001#7)
    (fun f => .regReg .MULHU f.rd f.rs1 f.rs2)
    [(0x02003033, "MULHU dst: 0 src1: 0 src2: 0"),
     (0x02843433, "MULHU dst: 8 src1: 8 src2: 8"),
     (0x03FFBFB3, "MULHU dst: 31 src1: 31 src2: 31"),
     (0x038BBB33, "MULHU dst: 22 src1: 23 src2: 24")]

/-- O39. R107: the whole rule of each (the codes are the spec's decisions D3 and D4, the format of the examples' texts its
decisions D7 and D8: log entries 5 and 8). -/
def Obligations.NopRule : Prop :=
  RuleHolds 25 5 0x0000007F 0x0000007F
    (fun f => f.opcode = 0b1111111#7)
    (fun _ => .noOperand .NOP)
    [(0xFFFFFFFF, "NOP"),
     (0x0000007E, "Error - Invalid Instruction"),
     (0x0000007F, "NOP")]

/-- O40. R108 whole, with R119 and R120 (the codes are the spec's decisions D3 and D4, the text D7: log entries 5 and 8). -/
def Obligations.InvalidRule : Prop :=
  (∀ s : State, (∀ mn, predicate mn (nextWord s) = false) →
    ∃ t, step s = .next t ∧ t.instr = nextWord s ∧ t.result = .invalid (nextWord s) ∧ t.ports = drives 0 31 7 (nextWord s)) ∧
  (∀ s t : State, step s = .next t → t.ports.valid = 0 → ∀ mn, predicate mn (nextWord s) = false) ∧
  (∀ w ∈ [0x00000000, 0x00000001, 0x0000006F, 0x00000063,
      0x00000037, 0x00000073, 0x0000000F, 0x04000033],
    ∀ s : State, ∃ t, step (s.supplyWords [(w : Word)]) = .next t ∧ render t.result = "Error - Invalid Instruction")

/-- O41. R121: the next input is decoded as if the Invalid word had never been presented. -/
def Obligations.InvalidLeavesNoTrace : Prop :=
  ∀ (s : State) (bad w : Word), (∀ mn, predicate mn bad = false) →
    ∃ t : State, Sys2Proof.core.run 2 (s.supplyWords [bad, w]) = .next t ∧ step (s.supplyWords [w]) = .next t

/-- O42. R15, R27 and R55: the operands of LW and SW, both what is reported and that every value is accepted. -/
def Obligations.LoadStoreOperands : Prop :=
  (∀ s t : State, step s = .next t → ∀ (mn : Mnemonic) (d b : UInt5) (o : UInt12), t.result = .ok (.load mn d b o) →
    mn = .LW ∧ b = 0) ∧
  (∀ s t : State, step s = .next t → ∀ (mn : Mnemonic) (r b : UInt5) (o : UInt12), t.result = .ok (.store mn r b o) →
    mn = .SW ∧ b = 0 ∧ o.toNat ≤ 1023 ∧
      o.toNat = (nextWord s).toNat / 33554432 % 32 * 32 + (nextWord s).toNat / 128 % 32) ∧
  (∀ (s : State) (r : UInt5) (o : UInt12), ∃ (w : Word) (t : State), step (s.supplyWords [w]) = .next t ∧
    t.result = .ok (.load .LW r 0 o)) ∧
  (∀ (s : State) (r : UInt5) (o : UInt12), o.toNat ≤ 1023 → ∃ (w : Word) (t : State),
    step (s.supplyWords [w]) = .next t ∧ t.result = .ok (.store .SW r 0 o))

/-- O43. R53: imm_i is used as it stands, in ImmArith and in Load. -/
def Obligations.ImmediatesAreNotSignExtended : Prop :=
  (∀ s t : State, step s = .next t → ∀ (mn : Mnemonic) (d b : UInt5) (o : UInt12),
    t.result = .ok (.immArith mn d b o) ∨ t.result = .ok (.load mn d b o) →
      o.toNat = (nextWord s).toNat / 1048576 ∧ o.toNat ≤ 4095 ∧ ((nextWord s).getLsbD 31 = true → 2048 ≤ o.toNat)) ∧
  (∀ s : State, ∃ t, step (s.supplyWords [0xFFF00013]) = .next t ∧ t.result = .ok (.immArith .ADDI 0 0 4095))

/-- O44. R110, R113 and R114, each template over the number's decimal text, with the examples from the source. The text of every
number rests on the number format (R117, the spec's decision D8): log entry 8. -/
def Obligations.RenderShiftLoadStore : Prop :=
  (∀ (mn : Mnemonic) (d s : UInt5) (sh : UInt5), render (.ok (.immShift mn d s sh)) =
    mnemonicName mn ++ " dst: " ++ d.toNat.repr ++ " src: " ++ s.toNat.repr ++ " shamt: " ++ sh.toNat.repr) ∧
  (∀ (mn : Mnemonic) (d b : UInt5) (o : UInt12), render (.ok (.load mn d b o)) =
    mnemonicName mn ++ " dst: " ++ d.toNat.repr ++ " base: " ++ b.toNat.repr ++ " offset: " ++ o.toNat.repr) ∧
  (∀ (mn : Mnemonic) (r b : UInt5) (o : UInt12), render (.ok (.store mn r b o)) =
    mnemonicName mn ++ " src: " ++ r.toNat.repr ++ " base: " ++ b.toNat.repr ++ " offset: " ++ o.toNat.repr) ∧
  (∀ e ∈ ([(0x40005413, "SRAI dst: 8 src: 0 shamt: 0"), (0x02802603, "LW dst: 12 base: 0 offset: 40"),
      (0x06802e03, "LW dst: 28 base: 0 offset: 104"), (0x06402423, "SW src: 4 base: 0 offset: 104")] : List (Word × String)),
    ∀ s : State, ∃ t, step (s.supplyWords [e.1]) = .next t ∧ render t.result = e.2)

/-- O45. R111, R112, R115 and R116. The fixed line is the spec's decision D7 and the text of every number its decision D8 (R117):
log entry 8. -/
def Obligations.RenderOtherResults : Prop :=
  (∀ (mn : Mnemonic) (d s : UInt5) (i : UInt12), render (.ok (.immArith mn d s i)) =
    mnemonicName mn ++ " dst: " ++ d.toNat.repr ++ " src: " ++ s.toNat.repr ++ " imm: " ++ i.toNat.repr) ∧
  (∀ (mn : Mnemonic) (d s1 s2 : UInt5), render (.ok (.regReg mn d s1 s2)) =
    mnemonicName mn ++ " dst: " ++ d.toNat.repr ++ " src1: " ++ s1.toNat.repr ++ " src2: " ++ s2.toNat.repr) ∧
  (∀ mn : Mnemonic, render (.ok (.noOperand mn)) = mnemonicName mn) ∧
  (∀ w : Word, render (.invalid w) = "Error - Invalid Instruction")

/-- O46. R117 (the spec's decision D8; log entry 8): unsigned decimal, no leading zeros, no sign, no padding. -/
def Obligations.NumbersAreDecimal : Prop :=
  ∀ (n : Nat) (v : BitVec n), let cs := (decimal v).toList
    cs ≠ [] ∧ (∀ c ∈ cs, c ∈ ['0', '1', '2', '3', '4', '5', '6', '7', '8', '9']) ∧ (cs.head? = some '0' → cs = ['0']) ∧
    cs.foldl (fun acc c => 10 * acc + (c.toNat - 48)) 0 = v.toNat

/-- O47. 95_test_vectors.md, head: the rendered text stands for the abstract result (Invalid words share one text, R116). The
first clause rests on the number format (R117, the spec's decision D8), the second on the fixed line of Invalid (R116, D7): log
entry 8. -/
def Obligations.RenderingIsFaithful : Prop :=
  (∀ d e : Decoded, render (.ok d) = render (.ok e) → d = e) ∧
  (∀ (d : Decoded) (w : Word), render (.ok d) ≠ render (.invalid w))

/-- O48. 95_test_vectors.md Part 1 and 90_conflicts.md C1 (the spec's decision D19: log entry 6; the format of the texts is D7 and
D8: log entry 8). -/
def Obligations.SourceVectors : Prop :=
  ∀ e ∈ ([(0x02802603, "LW dst: 12 base: 0 offset: 40"), (0x06402423, "SW src: 4 base: 0 offset: 104"),
      (0x06802E03, "LW dst: 28 base: 0 offset: 104"), (0x40005413, "SRAI dst: 8 src: 0 shamt: 0"),
      (0x00005413, "SRLI dst: 8 src: 0 shamt: 0"), (0x00001413, "SLLI dst: 8 src: 0 shamt: 0"),
      (0x04000033, "Error - Invalid Instruction")] : List (Word × String)),
    ∀ s : State, ∃ t, step (s.supplyWords [e.1]) = .next t ∧ render t.result = e.2

/-- O49. The frame of a step on the model's own fields (R28: no side effect; log entries 1 and 2). -/
def Obligations.StepFrame : Prop :=
  ∀ s t : State, step s = .next t →
    t.instr = nextWord s ∧
    (∀ (w : Word) (ws : List Word), s.supply = w :: ws → t.instr = w ∧ t.supply = ws ∧ t.undriven = s.undriven) ∧
    (s.supply = [] → t.supply = [] ∧ t.undriven = s.undriven + 1)

/-- O50. R26 and D9: the supplier's byte order is an argument; that it is one of two is the model's choice (log entry 12). -/
def Obligations.WordOfBytesValue : Prop :=
  ∀ b0 b1 b2 b3 : Byte,
    (wordOfBytes .littleEndian b0 b1 b2 b3).toNat = b0.toNat + 256 * b1.toNat + 65536 * b2.toNat + 16777216 * b3.toNat ∧
    (wordOfBytes .bigEndian b0 b1 b2 b3).toNat = b3.toNat + 256 * b2.toNat + 65536 * b1.toNat + 16777216 * b0.toNat

/-- O51. R45: the inputs of the classifier. -/
def Obligations.ClassifierReadsItsInputsOnly : Prop :=
  (∀ v w : Word, (slice v).opcode = (slice w).opcode → (slice v).funct3 = (slice w).funct3 →
    (slice v).funct7 = (slice w).funct7 → ((slice v).rs1 = 0#5 ↔ (slice w).rs1 = 0#5) →
      (∀ mn, predicate mn v = predicate mn w) ∧ classify v = classify w) ∧
  (∀ w : Word, w.extractLsb' 30 2 = (slice w).funct7.extractLsb' 5 2)

/-- O52. 95_test_vectors.md Part 3 and R7: the observable result of a stream is the sequence of decode results, whatever the
consumer does with them. -/
def Obligations.ConsumerSeesTheSequenceOfResults : Prop :=
  ∀ (σ : Type) (execute : Decoded → σ → σ) (onInvalid : Word → σ → σ) (ws : List Word) (s : State) (c : σ),
    observe execute onInvalid ws.length (s.supplyWords ws) c =
      (ws.map decodeResult).foldl (fun c r => consume execute onInvalid r c) c

/-- O53. R29: the base must be register zero, and a store offset lies in 0 to 1023; what the location denotes is an argument. -/
def Obligations.LocationsHaveBaseZero : Prop :=
  ∀ (α : Type) (memoryMap : UInt5 → UInt12 → α) (s t : State) (d : Decoded), step s = .next t → t.result = .ok d →
    (d.mnemonic = .LW → ∃ o : UInt12, locationOf memoryMap d = some (memoryMap 0 o)) ∧
    (d.mnemonic = .SW → ∃ o : UInt12, o.toNat ≤ 1023 ∧ locationOf memoryMap d = some (memoryMap 0 o)) ∧
    (d.mnemonic ≠ .LW → d.mnemonic ≠ .SW → locationOf memoryMap d = none)
end

