-- ==== Sys2Proof/Laws/Decode.lean ====
section
/-! SUPPORT. The slicer on the encoder's layouts, and every word as a layout of its own fields: no later proof takes a word apart
again. -/

namespace Sys2Proof

open Sys2Proof.Machine

/-- Extraction above the low part of a concatenation reads the high part. -/
theorem extract_above {v n s len : Nat} (x : BitVec v) (y : BitVec n) (h : n ≤ s) :
    (x ++ y).extractLsb' s len = x.extractLsb' (s - n) len :=
  BitVec.extractLsb'_append_eq_of_le h

/-- Extraction of exactly the low part of a concatenation. -/
theorem extract_low {v n : Nat} (x : BitVec v) (y : BitVec n) : (x ++ y).extractLsb' 0 n = y :=
  BitVec.extractLsb'_append_eq_right

section RFormat

variable (f7 : BitVec 7) (r2 r1 : UInt5) (f3 : BitVec 3) (rd : UInt5) (op : BitVec 7)

@[simp] theorem opcodeField_rFormat : opcodeField (rFormat f7 r2 r1 f3 rd op) = op := extract_low _ _

@[simp] theorem rdField_rFormat : rdField (rFormat f7 r2 r1 f3 rd op) = rd :=
  (extract_above _ _ (by decide)).trans (extract_low _ _)

@[simp] theorem funct3Field_rFormat : funct3Field (rFormat f7 r2 r1 f3 rd op) = f3 :=
  (extract_above _ _ (by decide)).trans <| (extract_above _ _ (by decide)).trans (extract_low _ _)

@[simp] theorem rs1Field_rFormat : rs1Field (rFormat f7 r2 r1 f3 rd op) = r1 :=
  (extract_above _ _ (by decide)).trans <| (extract_above _ _ (by decide)).trans <|
    (extract_above _ _ (by decide)).trans (extract_low _ _)

@[simp] theorem rs2Field_rFormat : rs2Field (rFormat f7 r2 r1 f3 rd op) = r2 :=
  (extract_above _ _ (by decide)).trans <| (extract_above _ _ (by decide)).trans <|
    (extract_above _ _ (by decide)).trans <| (extract_above _ _ (by decide)).trans (extract_low _ _)

@[simp] theorem shamtField_rFormat : shamtField (rFormat f7 r2 r1 f3 rd op) = r2 := rs2Field_rFormat f7 r2 r1 f3 rd op

@[simp] theorem funct7Field_rFormat : funct7Field (rFormat f7 r2 r1 f3 rd op) = f7 :=
  (extract_above _ _ (by decide)).trans <| (extract_above _ _ (by decide)).trans <|
    (extract_above _ _ (by decide)).trans <| (extract_above _ _ (by decide)).trans <|
    (extract_above _ _ (by decide)).trans BitVec.extractLsb'_eq_self

@[simp] theorem immSHiField_rFormat : immSHiField (rFormat f7 r2 r1 f3 rd op) = f7 := funct7Field_rFormat f7 r2 r1 f3 rd op

@[simp] theorem immSLoField_rFormat : immSLoField (rFormat f7 r2 r1 f3 rd op) = rd := rdField_rFormat f7 r2 r1 f3 rd op

@[simp] theorem immIField_rFormat : immIField (rFormat f7 r2 r1 f3 rd op) = f7 ++ r2 :=
  (extract_above _ _ (by decide)).trans <| (extract_above _ _ (by decide)).trans <|
    (extract_above _ _ (by decide)).trans <| (extract_above _ _ (by decide)).trans BitVec.extractLsb'_eq_self

@[simp] theorem storeOffsetField_rFormat : storeOffsetField (rFormat f7 r2 r1 f3 rd op) = f7 ++ rd := by
  simp [storeOffsetField]

end RFormat

/-- Twelve bits are their high seven and their low five (R44). -/
theorem high_append_low (x : UInt12) : (x.extractLsb' 5 7 ++ x.extractLsb' 0 5 : BitVec 12) = x := by
  ext i hi
  simp only [BitVec.getElem_append, BitVec.getElem_extractLsb']
  split
  · simp [BitVec.getLsbD_eq_getElem hi]
  · rw [show 5 + (i - 5) = i by omega, BitVec.getLsbD_eq_getElem hi]

/-- The five-part layout is the six-part one with the immediate cut in two. -/
theorem iFormat_eq_rFormat (imm : UInt12) (r1 : UInt5) (f3 : BitVec 3) (rd : UInt5) (op : BitVec 7) :
    iFormat imm r1 f3 rd op = rFormat (imm.extractLsb' 5 7) (imm.extractLsb' 0 5) r1 f3 rd op := by
  unfold iFormat rFormat
  rw [high_append_low imm]

/-- The high part of an extraction glued to the low part is the whole extraction. -/
theorem extract_append_extract {N : Nat} (w : BitVec N) (s len len' : Nat) :
    w.extractLsb' (s + len) len' ++ w.extractLsb' s len = w.extractLsb' s (len' + len) := by
  ext i hi
  simp only [BitVec.getElem_append, BitVec.getElem_extractLsb']
  split
  · rfl
  · rw [show s + len + (i - len) = s + i by omega]

/-- Every word is the six-part layout of its own fields: the slicer drops no bit (R46, R51). -/
theorem rFormat_slices (w : Word) :
    rFormat (funct7Field w) (rs2Field w) (rs1Field w) (funct3Field w) (rdField w) (opcodeField w) = w := by
  unfold rFormat funct7Field rs2Field rs1Field funct3Field rdField opcodeField
  rw [extract_append_extract w 20 5 7, extract_append_extract w 15 5 12, extract_append_extract w 12 3 17,
    extract_append_extract w 7 5 20, extract_append_extract w 0 7 25]
  exact BitVec.extractLsb'_eq_self

/-- A word is the layout of six fields exactly when those are its fields. -/
theorem eq_rFormat_iff {w : Word} {f7 : BitVec 7} {r2 r1 : UInt5} {f3 : BitVec 3} {rd : UInt5} {op : BitVec 7} :
    w = rFormat f7 r2 r1 f3 rd op ↔
      funct7Field w = f7 ∧ rs2Field w = r2 ∧ rs1Field w = r1 ∧ funct3Field w = f3 ∧ rdField w = rd ∧ opcodeField w = op := by
  constructor
  · rintro rfl
    simp
  · rintro ⟨rfl, rfl, rfl, rfl, rfl, rfl⟩
    exact (rFormat_slices w).symm

/-- imm_i is funct7 followed by rs2 (R56). -/
theorem immIField_eq (w : Word) : immIField w = funct7Field w ++ rs2Field w :=
  (extract_append_extract w 20 5 7).symm

/-- The fields of the store layout: the offset comes back whole (R44). -/
@[simp] theorem storeOffsetField_sFormat (off : UInt12) (r2 r1 : UInt5) (f3 : BitVec 3) (op : BitVec 7) :
    storeOffsetField (sFormat off r2 r1 f3 op) = off := by
  rw [sFormat, storeOffsetField_rFormat, high_append_low]

/-- The fields of the immediate layout: the immediate comes back whole (R42). -/
@[simp] theorem immIField_iFormat (imm : UInt12) (r1 : UInt5) (f3 : BitVec 3) (rd : UInt5) (op : BitVec 7) :
    immIField (iFormat imm r1 f3 rd op) = imm := by
  rw [iFormat_eq_rFormat, immIField_rFormat, high_append_low]

/-- The two most significant bits of an offset's high part are clear exactly up to 1023 (R55). -/
theorem top00_iff (off : UInt12) : (off.extractLsb' 5 7).extractLsb' 5 2 = (0 : BitVec 2) ↔ off.toNat ≤ 1023 := by
  rw [← BitVec.toNat_inj]
  simp only [BitVec.extractLsb'_toNat, Nat.shiftRight_eq_div_pow]
  have := off.isLt
  constructor <;> intro h
  · simp at h
    omega
  · simp
    omega

/-! ### Where a decode can end in Invalid, and with which word (R75) -/

theorem decodeOpImm_invalid {f : Fields} {w v : Word} (h : decodeOpImm f w = .invalidInstruction v) : v = w := by
  unfold decodeOpImm at h
  repeat' split at h
  all_goals simp_all

theorem decodeOpReg_invalid {f : Fields} {w v : Word} (h : decodeOpReg f w = .invalidInstruction v) : v = w := by
  unfold decodeOpReg decodeOpAlt decodeOpMul at h
  repeat' split at h
  all_goals simp_all

/-- An Invalid outcome carries the whole word that was decoded, unchanged. -/
theorem decode_invalid_word {w v : Word} (h : decode w = .invalidInstruction v) : v = w := by
  unfold decode at h
  simp only at h
  split at h
  · exact decodeOpImm_invalid h
  split at h
  · unfold decodeLoad at h
    split at h <;> simp_all
  split at h
  · unfold decodeStore at h
    split at h <;> simp_all
  split at h
  · exact decodeOpReg_invalid h
  split at h <;> simp_all

end Sys2Proof
end

