-- ==== Sys2Proof/Laws/State.lean ====
section
/-! SUPPORT. One lemma per field per update of State: no later proof unfolds a record update. -/

namespace Sys2Proof.Machine

variable (s : State)

/-! ### driveFields -/

@[simp] theorem driveFields_instr : (driveFields s).instr = s.instr := rfl

@[simp] theorem driveFields_result : (driveFields s).result = s.result := rfl

@[simp] theorem driveFields_supply : (driveFields s).supply = s.supply := rfl

@[simp] theorem driveFields_undriven : (driveFields s).undriven = s.undriven := rfl

@[simp] theorem driveFields_ports_valid : (driveFields s).ports.valid = s.ports.valid := rfl

@[simp] theorem driveFields_ports_mnem : (driveFields s).ports.mnem = s.ports.mnem := rfl

@[simp] theorem driveFields_ports_shape : (driveFields s).ports.shape = s.ports.shape := rfl

@[simp] theorem driveFields_ports_opcode : (driveFields s).ports.opcode = opcodeField s.instr := rfl

@[simp] theorem driveFields_ports_funct3 : (driveFields s).ports.funct3 = funct3Field s.instr := rfl

@[simp] theorem driveFields_ports_funct7 : (driveFields s).ports.funct7 = funct7Field s.instr := rfl

@[simp] theorem driveFields_ports_rd : (driveFields s).ports.rd = rdField s.instr := rfl

@[simp] theorem driveFields_ports_rs1 : (driveFields s).ports.rs1 = rs1Field s.instr := rfl

@[simp] theorem driveFields_ports_rs2 : (driveFields s).ports.rs2 = rs2Field s.instr := rfl

@[simp] theorem driveFields_ports_immI : (driveFields s).ports.immI = immIField s.instr := rfl

@[simp] theorem driveFields_ports_storeOffset : (driveFields s).ports.storeOffset = storeOffsetField s.instr := rfl

/-! ### deliver -/

variable (r : Result)

@[simp] theorem deliver_instr : (deliver r s).instr = s.instr := rfl

@[simp] theorem deliver_supply : (deliver r s).supply = s.supply := rfl

@[simp] theorem deliver_undriven : (deliver r s).undriven = s.undriven := rfl

@[simp] theorem deliver_result : (deliver r s).result = r := rfl

@[simp] theorem deliver_ports_valid : (deliver r s).ports.valid = validOut r := rfl

@[simp] theorem deliver_ports_mnem : (deliver r s).ports.mnem = mnemOut r := rfl

@[simp] theorem deliver_ports_shape : (deliver r s).ports.shape = shapeOut r := rfl

@[simp] theorem deliver_ports_opcode : (deliver r s).ports.opcode = s.ports.opcode := rfl

@[simp] theorem deliver_ports_funct3 : (deliver r s).ports.funct3 = s.ports.funct3 := rfl

@[simp] theorem deliver_ports_funct7 : (deliver r s).ports.funct7 = s.ports.funct7 := rfl

@[simp] theorem deliver_ports_rd : (deliver r s).ports.rd = s.ports.rd := rfl

@[simp] theorem deliver_ports_rs1 : (deliver r s).ports.rs1 = s.ports.rs1 := rfl

@[simp] theorem deliver_ports_rs2 : (deliver r s).ports.rs2 = s.ports.rs2 := rfl

@[simp] theorem deliver_ports_immI : (deliver r s).ports.immI = s.ports.immI := rfl

@[simp] theorem deliver_ports_storeOffset : (deliver r s).ports.storeOffset = s.ports.storeOffset := rfl

/-! ### present -/

@[simp] theorem present_instr : (present s).instr = nextWord s := by
  unfold present nextWord
  cases s.supply <;> rfl

@[simp] theorem present_result : (present s).result = s.result := by
  unfold present
  cases s.supply <;> rfl

@[simp] theorem present_ports : (present s).ports = s.ports := by
  unfold present
  cases s.supply <;> rfl

@[simp] theorem present_supply : (present s).supply = s.supply.tail := by
  unfold present
  cases s.supply <;> simp

/-! ### Supplying words -/

@[simp] theorem supplyWords_instr (ws : List Word) : (s.supplyWords ws).instr = s.instr := rfl

@[simp] theorem supplyWords_result (ws : List Word) : (s.supplyWords ws).result = s.result := rfl

@[simp] theorem supplyWords_ports (ws : List Word) : (s.supplyWords ws).ports = s.ports := rfl

@[simp] theorem supplyWords_undriven (ws : List Word) : (s.supplyWords ws).undriven = s.undriven := rfl

@[simp] theorem supplyWords_supply (ws : List Word) : (s.supplyWords ws).supply = ws ++ s.supply := rfl

@[simp] theorem withFetchWord_instr (n w : Nat) : (s.withFetchWord n w).instr = s.instr := rfl

@[simp] theorem withFetchWord_result (n w : Nat) : (s.withFetchWord n w).result = s.result := rfl

@[simp] theorem withFetchWord_ports (n w : Nat) : (s.withFetchWord n w).ports = s.ports := rfl

@[simp] theorem withFetchWord_undriven (n w : Nat) : (s.withFetchWord n w).undriven = s.undriven := rfl

@[simp] theorem withFetchWord_supply (n w : Nat) : (s.withFetchWord n w).supply = tableWord n w :: s.supply := rfl

end Sys2Proof.Machine
end

