-- ==== Sys2Proof/Laws/Ops.lean ====
section
/-! SUPPORT. What each shared operation can do, said once: exec is one delivery, and a step either runs the decoded instruction or
delivers Invalid. -/

namespace Sys2Proof.Machine

/-- The decoded instruction each meaning delivers. -/
def decodedOf : Instr → Decoded
  | .addi dst src imm => .immArith .ADDI dst src imm
  | .slli dst src shamt => .immShift .SLLI dst src shamt
  | .slti dst src imm => .immArith .SLTI dst src imm
  | .sltiu dst src imm => .immArith .SLTIU dst src imm
  | .xori dst src imm => .immArith .XORI dst src imm
  | .srli dst src shamt => .immShift .SRLI dst src shamt
  | .srai dst src shamt => .immShift .SRAI dst src shamt
  | .ori dst src imm => .immArith .ORI dst src imm
  | .andi dst src imm => .immArith .ANDI dst src imm
  | .lw dst base offset => .load .LW dst base offset
  | .sw src base offset => .store .SW src base offset
  | .add dst src1 src2 => .regReg .ADD dst src1 src2
  | .sub dst src1 src2 => .regReg .SUB dst src1 src2
  | .mul dst src1 src2 => .regReg .MUL dst src1 src2
  | .sll dst src1 src2 => .regReg .SLL dst src1 src2
  | .slt dst src1 src2 => .regReg .SLT dst src1 src2
  | .mulhsu dst src1 src2 => .regReg .MULHSU dst src1 src2
  | .sltu dst src1 src2 => .regReg .SLTU dst src1 src2
  | .mulhu dst src1 src2 => .regReg .MULHU dst src1 src2
  | .xor dst src1 src2 => .regReg .XOR dst src1 src2
  | .srl dst src1 src2 => .regReg .SRL dst src1 src2
  | .sra dst src1 src2 => .regReg .SRA dst src1 src2
  | .mulh dst src1 src2 => .regReg .MULH dst src1 src2
  | .or dst src1 src2 => .regReg .OR dst src1 src2
  | .and dst src1 src2 => .regReg .AND dst src1 src2
  | .nop => .noOperand .NOP

/-- Every meaning delivers its decoded instruction and does nothing else. -/
theorem exec_eq_deliver (i : Instr) (s : State) : exec i s = .next (deliver (.ok (decodedOf i)) s) := by
  cases i <;> rfl

/-- A delivered instruction carries the mnemonic of its row and the shape of that mnemonic (R69). -/
theorem decodedOf_mnemonic (i : Instr) : (decodedOf i).mnemonic = i.mnemonic := by
  cases i <;> rfl

theorem decodedOf_shape (i : Instr) : (decodedOf i).shape = shapeOf i.mnemonic := by
  cases i <;> rfl

/-- The result a decode outcome stands for. -/
def resultOf : DecodeOutcome → Result
  | .ok i => .ok (decodedOf i)
  | .invalidInstruction w => .invalid w

/-- Everything a step can do: it presents a word, drives the field ports and delivers one result. -/
theorem step_eq_deliver (s : State) :
    step s = .next (deliver (resultOf (decode (nextWord s))) (driveFields (present s))) := by
  unfold step
  simp only [driveFields_instr, present_instr]
  cases decode (nextWord s) with
  | ok i => exact exec_eq_deliver i _
  | invalidInstruction w => rfl

end Sys2Proof.Machine
end

