-- ==== Sys2Proof/Laws/Classifier.lean ====
section
/-! SUPPORT. What the decoder answers, said once in the terms of the predicate table: an instruction of a row that holds of the fields,
carrying the operands of its shape, or Invalid where no row holds. -/

namespace Sys2Proof.Machine

/-- A row holds when each of its entries does (30_encoding.md R58). -/
theorem rowHolds_iff (r : PredicateRow) (f : Fields) :
    rowHolds r f = true ↔
      f.opcode = r.opcode ∧ entryHolds r.funct3 f.funct3 = true ∧ entryHolds r.funct7 f.funct7 = true ∧
        (r.rs1Zero = true → f.rs1 = 0#5) ∧ (r.top00 = true → f.funct7.extractLsb' 5 2 = 0#2) := by
  cases h1 : r.rs1Zero <;> cases h2 : r.top00 <;> simp [rowHolds, h1, h2, and_assoc]

/-- The eight values of funct3. -/
theorem funct3_cases : ∀ x : BitVec 3,
    x = 0#3 ∨ x = 1#3 ∨ x = 2#3 ∨ x = 3#3 ∨ x = 4#3 ∨ x = 5#3 ∨ x = 6#3 ∨ x = 7#3 := by decide

/-- What a decode outcome must be for the fields `f` of the word `w`. -/
def DecodeOutcome.Fits (f : Fields) (w : Word) : DecodeOutcome → Prop
  | .ok i => rowHolds (predicateRow i.mnemonic) f = true ∧ decodedOf i = assemble i.mnemonic f
  | .invalidInstruction v => v = w ∧ ∀ mn, rowHolds (predicateRow mn) f = false

variable {f : Fields} {w : Word}

theorem fits_ok {i : Instr} (h : rowHolds (predicateRow i.mnemonic) f = true) (h' : decodedOf i = assemble i.mnemonic f) :
    DecodeOutcome.Fits f w (.ok i) := ⟨h, h'⟩

theorem fits_invalid (h : ∀ mn, rowHolds (predicateRow mn) f = false) :
    DecodeOutcome.Fits f w (.invalidInstruction w) := ⟨rfl, h⟩

theorem decodeOpImm_fits (h : f.opcode = 0b0010011#7) : DecodeOutcome.Fits f w (decodeOpImm f w) := by
  unfold decodeOpImm
  rcases funct3_cases f.funct3 with h3 | h3 | h3 | h3 | h3 | h3 | h3 | h3 <;> simp only [h3] <;> (repeat' split) <;> first
    | contradiction
    | exact fits_ok (by simp [rowHolds, predicateRow, entryHolds, Instr.mnemonic, *]) rfl
    | exact fits_invalid (by intro mn; cases mn <;> simp [rowHolds, predicateRow, entryHolds, *])

theorem decodeLoad_fits (h : f.opcode = 0b0000011#7) : DecodeOutcome.Fits f w (decodeLoad f w) := by
  unfold decodeLoad
  split
  · rename_i h2
    exact fits_ok (by simp [rowHolds, predicateRow, entryHolds, Instr.mnemonic, h, h2.1, h2.2]) rfl
  · rename_i h2
    refine fits_invalid fun mn => ?_
    cases mn <;> simp [rowHolds, predicateRow, entryHolds, h]
    exact fun a b => h2 ⟨a, b⟩

theorem decodeStore_fits (h : f.opcode = 0b0100011#7) : DecodeOutcome.Fits f w (decodeStore f w) := by
  unfold decodeStore
  split
  · rename_i h2
    exact fits_ok (by simp [rowHolds, predicateRow, entryHolds, Instr.mnemonic, h, h2.1, h2.2.1, h2.2.2]) rfl
  · rename_i h2
    refine fits_invalid fun mn => ?_
    cases mn <;> simp [rowHolds, predicateRow, entryHolds, h]
    exact fun a b c => h2 ⟨a, b, c⟩

theorem decodeOpBase_fits (h : f.opcode = 0b0110011#7) (h7 : f.funct7 = 0b0000000#7) :
    DecodeOutcome.Fits f w (.ok (decodeOpBase f)) := by
  unfold decodeOpBase
  rcases funct3_cases f.funct3 with h3 | h3 | h3 | h3 | h3 | h3 | h3 | h3 <;>
    exact fits_ok (by simp [rowHolds, predicateRow, entryHolds, Instr.mnemonic, h, h3, h7]) (by simp only [h3]; rfl)

theorem decodeOpAlt_fits (h : f.opcode = 0b0110011#7) (h7 : f.funct7 = 0b0100000#7) :
    DecodeOutcome.Fits f w (decodeOpAlt f w) := by
  unfold decodeOpAlt
  split
  · exact fits_ok (by simp [rowHolds, predicateRow, entryHolds, Instr.mnemonic, *]) rfl
  split
  · exact fits_ok (by simp [rowHolds, predicateRow, entryHolds, Instr.mnemonic, *]) rfl
  · exact fits_invalid (by intro mn; cases mn <;> simp [rowHolds, predicateRow, entryHolds, *])

theorem decodeOpMul_fits (h : f.opcode = 0b0110011#7) (h7 : f.funct7 = 0b0000001#7) :
    DecodeOutcome.Fits f w (decodeOpMul f w) := by
  unfold decodeOpMul
  repeat' split
  all_goals first
    | exact fits_ok (by simp [rowHolds, predicateRow, entryHolds, Instr.mnemonic, *]) rfl
    | exact fits_invalid (by intro mn; cases mn <;> simp [rowHolds, predicateRow, entryHolds, *])

theorem decodeOpReg_fits (h : f.opcode = 0b0110011#7) : DecodeOutcome.Fits f w (decodeOpReg f w) := by
  unfold decodeOpReg
  split
  · exact decodeOpBase_fits h ‹_›
  split
  · exact decodeOpAlt_fits h ‹_›
  split
  · exact decodeOpMul_fits h ‹_›
  · exact fits_invalid (by intro mn; cases mn <;> simp [rowHolds, predicateRow, entryHolds, *])

/-- Everything decode can answer (30_encoding.md R58, 40_decode.md R70, R75). -/
theorem decode_fits (w : Word) : DecodeOutcome.Fits (slice w) w (decode w) := by
  unfold decode
  simp only
  split
  · exact decodeOpImm_fits ‹_›
  split
  · exact decodeLoad_fits ‹_›
  split
  · exact decodeStore_fits ‹_›
  split
  · exact decodeOpReg_fits ‹_›
  split
  · exact fits_ok (by simp [rowHolds, predicateRow, entryHolds, Instr.mnemonic, *]) rfl
  · exact fits_invalid (by intro mn; cases mn <;> simp [rowHolds, predicateRow, entryHolds, *])

end Sys2Proof.Machine
end

