-- ==== Sys2Proof/Laws/PerInstr.lean ====
section
/-! SUPPORT. Facts about every instruction as syntax, one lemma per constructor. Family `EncodesRow`: the word a well-formed
instruction encodes to satisfies the predicate of its own row of the table (30_encoding.md R58). -/

namespace Sys2Proof.Laws.EncodesRow

open Sys2Proof Sys2Proof.Machine

/-- The encoded word is selected by the instruction's row. -/
def Statement (i : Instr) : Prop := i.WellFormed → predicate i.mnemonic (encode i) = true

/-- A row's conditions on a six-part layout. -/
theorem row_rFormat (mn : Mnemonic) (f7 : BitVec 7) (r2 r1 : UInt5) (f3 : BitVec 3) (rd : UInt5) (op : BitVec 7) :
    predicate mn (rFormat f7 r2 r1 f3 rd op) =
      ((op == (predicateRow mn).opcode) && entryHolds (predicateRow mn).funct3 f3 && entryHolds (predicateRow mn).funct7 f7 &&
        (!(predicateRow mn).rs1Zero || r1 == 0) && (!(predicateRow mn).top00 || f7.extractLsb' 5 2 == 0)) := by
  simp [predicate, rowHolds, slice]

theorem addi (dst : UInt5) (src : UInt5) (imm : UInt12) : Statement (.addi dst src imm) := by
  intro _
  rw [encode, iFormat_eq_rFormat, row_rFormat]
  simp [predicateRow, entryHolds, Instr.mnemonic]

theorem slli (dst : UInt5) (src : UInt5) (shamt : UInt5) : Statement (.slli dst src shamt) := by
  intro _
  rw [encode, row_rFormat]
  simp [predicateRow, entryHolds, Instr.mnemonic]

theorem slti (dst : UInt5) (src : UInt5) (imm : UInt12) : Statement (.slti dst src imm) := by
  intro _
  rw [encode, iFormat_eq_rFormat, row_rFormat]
  simp [predicateRow, entryHolds, Instr.mnemonic]

theorem sltiu (dst : UInt5) (src : UInt5) (imm : UInt12) : Statement (.sltiu dst src imm) := by
  intro _
  rw [encode, iFormat_eq_rFormat, row_rFormat]
  simp [predicateRow, entryHolds, Instr.mnemonic]

theorem xori (dst : UInt5) (src : UInt5) (imm : UInt12) : Statement (.xori dst src imm) := by
  intro _
  rw [encode, iFormat_eq_rFormat, row_rFormat]
  simp [predicateRow, entryHolds, Instr.mnemonic]

theorem srli (dst : UInt5) (src : UInt5) (shamt : UInt5) : Statement (.srli dst src shamt) := by
  intro _
  rw [encode, row_rFormat]
  simp [predicateRow, entryHolds, Instr.mnemonic]

theorem srai (dst : UInt5) (src : UInt5) (shamt : UInt5) : Statement (.srai dst src shamt) := by
  intro _
  rw [encode, row_rFormat]
  simp [predicateRow, entryHolds, Instr.mnemonic]

theorem ori (dst : UInt5) (src : UInt5) (imm : UInt12) : Statement (.ori dst src imm) := by
  intro _
  rw [encode, iFormat_eq_rFormat, row_rFormat]
  simp [predicateRow, entryHolds, Instr.mnemonic]

theorem andi (dst : UInt5) (src : UInt5) (imm : UInt12) : Statement (.andi dst src imm) := by
  intro _
  rw [encode, iFormat_eq_rFormat, row_rFormat]
  simp [predicateRow, entryHolds, Instr.mnemonic]

theorem lw (dst : UInt5) (base : UInt5) (offset : UInt12) : Statement (.lw dst base offset) := by
  intro h
  rw [encode, iFormat_eq_rFormat, row_rFormat]
  simpa [predicateRow, entryHolds, Instr.mnemonic, Instr.WellFormed, Instr.wellFormed] using h

theorem sw (src : UInt5) (base : UInt5) (offset : UInt12) : Statement (.sw src base offset) := by
  intro h
  rw [encode, sFormat, row_rFormat]
  simp [Instr.WellFormed, Instr.wellFormed] at h
  simp [predicateRow, entryHolds, Instr.mnemonic, h.1, (top00_iff offset).2 h.2]

theorem add (dst : UInt5) (src1 : UInt5) (src2 : UInt5) : Statement (.add dst src1 src2) := by
  intro _
  rw [encode, row_rFormat]
  simp [predicateRow, entryHolds, Instr.mnemonic]

theorem sub (dst : UInt5) (src1 : UInt5) (src2 : UInt5) : Statement (.sub dst src1 src2) := by
  intro _
  rw [encode, row_rFormat]
  simp [predicateRow, entryHolds, Instr.mnemonic]

theorem mul (dst : UInt5) (src1 : UInt5) (src2 : UInt5) : Statement (.mul dst src1 src2) := by
  intro _
  rw [encode, row_rFormat]
  simp [predicateRow, entryHolds, Instr.mnemonic]

theorem sll (dst : UInt5) (src1 : UInt5) (src2 : UInt5) : Statement (.sll dst src1 src2) := by
  intro _
  rw [encode, row_rFormat]
  simp [predicateRow, entryHolds, Instr.mnemonic]

theorem slt (dst : UInt5) (src1 : UInt5) (src2 : UInt5) : Statement (.slt dst src1 src2) := by
  intro _
  rw [encode, row_rFormat]
  simp [predicateRow, entryHolds, Instr.mnemonic]

theorem mulhsu (dst : UInt5) (src1 : UInt5) (src2 : UInt5) : Statement (.mulhsu dst src1 src2) := by
  intro _
  rw [encode, row_rFormat]
  simp [predicateRow, entryHolds, Instr.mnemonic]

theorem sltu (dst : UInt5) (src1 : UInt5) (src2 : UInt5) : Statement (.sltu dst src1 src2) := by
  intro _
  rw [encode, row_rFormat]
  simp [predicateRow, entryHolds, Instr.mnemonic]

theorem mulhu (dst : UInt5) (src1 : UInt5) (src2 : UInt5) : Statement (.mulhu dst src1 src2) := by
  intro _
  rw [encode, row_rFormat]
  simp [predicateRow, entryHolds, Instr.mnemonic]

theorem xor (dst : UInt5) (src1 : UInt5) (src2 : UInt5) : Statement (.xor dst src1 src2) := by
  intro _
  rw [encode, row_rFormat]
  simp [predicateRow, entryHolds, Instr.mnemonic]

theorem srl (dst : UInt5) (src1 : UInt5) (src2 : UInt5) : Statement (.srl dst src1 src2) := by
  intro _
  rw [encode, row_rFormat]
  simp [predicateRow, entryHolds, Instr.mnemonic]

theorem sra (dst : UInt5) (src1 : UInt5) (src2 : UInt5) : Statement (.sra dst src1 src2) := by
  intro _
  rw [encode, row_rFormat]
  simp [predicateRow, entryHolds, Instr.mnemonic]

theorem mulh (dst : UInt5) (src1 : UInt5) (src2 : UInt5) : Statement (.mulh dst src1 src2) := by
  intro _
  rw [encode, row_rFormat]
  simp [predicateRow, entryHolds, Instr.mnemonic]

theorem or (dst : UInt5) (src1 : UInt5) (src2 : UInt5) : Statement (.or dst src1 src2) := by
  intro _
  rw [encode, row_rFormat]
  simp [predicateRow, entryHolds, Instr.mnemonic]

theorem and (dst : UInt5) (src1 : UInt5) (src2 : UInt5) : Statement (.and dst src1 src2) := by
  intro _
  rw [encode, row_rFormat]
  simp [predicateRow, entryHolds, Instr.mnemonic]

theorem nop : Statement (.nop) := by
  intro _
  rw [encode, iFormat_eq_rFormat, row_rFormat]
  simp [predicateRow, entryHolds, Instr.mnemonic]

end Sys2Proof.Laws.EncodesRow
end

