-- ==== Sys2Proof/Tests/Slice0.lean ====
section
/-! SUPPORT. Tests. Every expected value is the spec's: the layouts of 30_encoding.md §3 written out bit by bit, the vector tables of
95_test_vectors.md Part 2, and the rules named. Then the witnesses: states and operands that meet the hypotheses of the statements. -/

namespace Sys2Proof.Tests

open Sys2Proof Sys2Proof.Machine

/-! ### WellFormed refuses, one ill-formed term per check -/

theorem test_wf_lw_base : (Instr.lw 1 2 4).wellFormed = false := by decide

theorem test_wf_sw_base : (Instr.sw 0 2 0).wellFormed = false := by decide

theorem test_wf_sw_offset : (Instr.sw 0 0 1024).wellFormed = false := by decide

theorem test_wf_sw_largest_offset : (Instr.sw 0 0 1023).wellFormed = true := by decide

/-! ### Every constructor's decoding, its word written out from its layout (R47 to R52) -/

theorem test_decode_addi : decode 0b000000000101_00010_000_00001_0010011 = .ok (.addi 1 2 5) := by decide

theorem test_decode_slli : decode 0b0000000_00111_00100_001_00011_0010011 = .ok (.slli 3 4 7) := by decide

theorem test_decode_slti : decode 0b000001100100_00110_010_00101_0010011 = .ok (.slti 5 6 100) := by decide

theorem test_decode_sltiu : decode 0b000000000001_01000_011_00111_0010011 = .ok (.sltiu 7 8 1) := by decide

theorem test_decode_xori : decode 0b000011111111_01010_100_01001_0010011 = .ok (.xori 9 10 255) := by decide

theorem test_decode_srli : decode 0b0000000_11111_01100_101_01011_0010011 = .ok (.srli 11 12 31) := by decide

theorem test_decode_srai : decode 0b0100000_00001_01110_101_01101_0010011 = .ok (.srai 13 14 1) := by decide

theorem test_decode_ori : decode 0b010101010101_10000_110_01111_0010011 = .ok (.ori 15 16 1365) := by decide

theorem test_decode_andi : decode 0b111111111111_10010_111_10001_0010011 = .ok (.andi 17 18 4095) := by decide

theorem test_decode_lw : decode 0b000000101000_00000_010_01100_0000011 = .ok (.lw 12 0 40) := by decide

theorem test_decode_sw : decode 0b0000011_00100_00000_010_01000_0100011 = .ok (.sw 4 0 104) := by decide

theorem test_decode_add : decode 0b0000000_00011_00010_000_00001_0110011 = .ok (.add 1 2 3) := by decide

theorem test_decode_sub : decode 0b0100000_00110_00101_000_00100_0110011 = .ok (.sub 4 5 6) := by decide

theorem test_decode_mul : decode 0b0000001_01001_01000_000_00111_0110011 = .ok (.mul 7 8 9) := by decide

theorem test_decode_sll : decode 0b0000000_01100_01011_001_01010_0110011 = .ok (.sll 10 11 12) := by decide

theorem test_decode_slt : decode 0b0000000_01111_01110_010_01101_0110011 = .ok (.slt 13 14 15) := by decide

theorem test_decode_mulhsu : decode 0b0000001_10010_10001_010_10000_0110011 = .ok (.mulhsu 16 17 18) := by decide

theorem test_decode_sltu : decode 0b0000000_10101_10100_011_10011_0110011 = .ok (.sltu 19 20 21) := by decide

theorem test_decode_mulhu : decode 0b0000001_11000_10111_011_10110_0110011 = .ok (.mulhu 22 23 24) := by decide

theorem test_decode_xor : decode 0b0000000_11011_11010_100_11001_0110011 = .ok (.xor 25 26 27) := by decide

theorem test_decode_srl : decode 0b0000000_11110_11101_101_11100_0110011 = .ok (.srl 28 29 30) := by decide

theorem test_decode_sra : decode 0b0100000_00010_00001_101_11111_0110011 = .ok (.sra 31 1 2) := by decide

theorem test_decode_mulh : decode 0b0000001_00101_00100_001_00011_0110011 = .ok (.mulh 3 4 5) := by decide

theorem test_decode_or : decode 0b0000000_01000_00111_110_00110_0110011 = .ok (.or 6 7 8) := by decide

theorem test_decode_and : decode 0b0000000_01011_01010_111_01001_0110011 = .ok (.and 9 10 11) := by decide

theorem test_decode_nop : decode 0b0001001_00011_01000_101_01100_1111111 = .ok (.nop) := by decide

/-! ### The vector tables: ports and text after one step from reset -/

/-- One row of a table of 95_test_vectors.md Part 2, its columns in the tables' order. -/
structure Row where
  word : Word
  opcode : BitVec 7
  funct3 : BitVec 3
  funct7 : BitVec 7
  rd : Nat
  rs1 : Nat
  rs2 : Nat
  immI : Nat
  storeOffset : Nat
  valid : BitVec 1
  mnem : BitVec 5
  shape : BitVec 3
  rendered : String

/-- Whether a step on the row's word drives the row's ports and delivers its text. -/
def Row.passes (r : Row) : Bool :=
  match step (State.reset.withFetchWord 32 r.word.toNat) with
  | .next t =>
    t.instr == r.word && t.ports.opcode == r.opcode && t.ports.funct3 == r.funct3 && t.ports.funct7 == r.funct7 &&
    t.ports.rd.toNat == r.rd && t.ports.rs1.toNat == r.rs1 && t.ports.rs2.toNat == r.rs2 && t.ports.immI.toNat == r.immI &&
    t.ports.storeOffset.toNat == r.storeOffset && t.ports.valid == r.valid && t.ports.mnem == r.mnem &&
    t.ports.shape == r.shape && render t.result == r.rendered
  | _ => false

theorem test_vectors_immediate_arithmetic_part1 : ([
    ⟨0x00510093, 0b0010011, 0b000, 0b0000000, 1, 2, 5, 5, 1, 1, 8, 1, "ADDI dst: 1 src: 2 imm: 5"⟩,
    ⟨0x00000013, 0b0010011, 0b000, 0b0000000, 0, 0, 0, 0, 0, 1, 8, 1, "ADDI dst: 0 src: 0 imm: 0"⟩,
    ⟨0xFFF00013, 0b0010011, 0b000, 0b1111111, 0, 0, 31, 4095, 4064, 1, 8, 1, "ADDI dst: 0 src: 0 imm: 4095"⟩,
    ⟨0x80000013, 0b0010011, 0b000, 0b1000000, 0, 0, 0, 2048, 2048, 1, 8, 1, "ADDI dst: 0 src: 0 imm: 2048"⟩,
    ⟨0x06432293, 0b0010011, 0b010, 0b0000011, 5, 6, 4, 100, 101, 1, 3, 1, "SLTI dst: 5 src: 6 imm: 100"⟩,
    ⟨0xFFF0A093, 0b0010011, 0b010, 0b1111111, 1, 1, 31, 4095, 4065, 1, 3, 1, "SLTI dst: 1 src: 1 imm: 4095"⟩,
    ⟨0x00143393, 0b0010011, 0b011, 0b0000000, 7, 8, 1, 1, 7, 1, 1, 1, "SLTIU dst: 7 src: 8 imm: 1"⟩,
    ⟨0xFFF03013, 0b0010011, 0b011, 0b1111111, 0, 0, 31, 4095, 4064, 1, 1, 1, "SLTIU dst: 0 src: 0 imm: 4095"⟩] : List Row).all Row.passes = true := by decide

theorem test_vectors_immediate_arithmetic_part2 : ([
    ⟨0x0FF54493, 0b0010011, 0b100, 0b0000111, 9, 10, 31, 255, 233, 1, 7, 1, "XORI dst: 9 src: 10 imm: 255"⟩,
    ⟨0xFFF54493, 0b0010011, 0b100, 0b1111111, 9, 10, 31, 4095, 4073, 1, 7, 1, "XORI dst: 9 src: 10 imm: 4095"⟩,
    ⟨0x55586793, 0b0010011, 0b110, 0b0101010, 15, 16, 21, 1365, 1359, 1, 6, 1, "ORI dst: 15 src: 16 imm: 1365"⟩,
    ⟨0x80006013, 0b0010011, 0b110, 0b1000000, 0, 0, 0, 2048, 2048, 1, 6, 1, "ORI dst: 0 src: 0 imm: 2048"⟩,
    ⟨0xFFF97893, 0b0010011, 0b111, 0b1111111, 17, 18, 31, 4095, 4081, 1, 0, 1, "ANDI dst: 17 src: 18 imm: 4095"⟩,
    ⟨0x00007013, 0b0010011, 0b111, 0b0000000, 0, 0, 0, 0, 0, 1, 0, 1, "ANDI dst: 0 src: 0 imm: 0"⟩,
    ⟨0xFFFFF013, 0b0010011, 0b111, 0b1111111, 0, 31, 31, 4095, 4064, 1, 0, 1, "ANDI dst: 0 src: 31 imm: 4095"⟩] : List Row).all Row.passes = true := by decide

theorem test_vectors_immediate_shift_part1 : ([
    ⟨0x00721193, 0b0010011, 0b001, 0b0000000, 3, 4, 7, 7, 3, 1, 5, 0, "SLLI dst: 3 src: 4 shamt: 7"⟩,
    ⟨0x00001413, 0b0010011, 0b001, 0b0000000, 8, 0, 0, 0, 8, 1, 5, 0, "SLLI dst: 8 src: 0 shamt: 0"⟩,
    ⟨0x01F09093, 0b0010011, 0b001, 0b0000000, 1, 1, 31, 31, 1, 1, 5, 0, "SLLI dst: 1 src: 1 shamt: 31"⟩,
    ⟨0x02001013, 0b0010011, 0b001, 0b0000001, 0, 0, 0, 32, 32, 0, 31, 7, "Error - Invalid Instruction"⟩,
    ⟨0x40001013, 0b0010011, 0b001, 0b0100000, 0, 0, 0, 1024, 1024, 0, 31, 7, "Error - Invalid Instruction"⟩,
    ⟨0xFE001013, 0b0010011, 0b001, 0b1111111, 0, 0, 0, 4064, 4064, 0, 31, 7, "Error - Invalid Instruction"⟩,
    ⟨0x01F65593, 0b0010011, 0b101, 0b0000000, 11, 12, 31, 31, 11, 1, 2, 0, "SRLI dst: 11 src: 12 shamt: 31"⟩,
    ⟨0x00005413, 0b0010011, 0b101, 0b0000000, 8, 0, 0, 0, 8, 1, 2, 0, "SRLI dst: 8 src: 0 shamt: 0"⟩] : List Row).all Row.passes = true := by decide

theorem test_vectors_immediate_shift_part2 : ([
    ⟨0x00005013, 0b0010011, 0b101, 0b0000000, 0, 0, 0, 0, 0, 1, 2, 0, "SRLI dst: 0 src: 0 shamt: 0"⟩,
    ⟨0x40175693, 0b0010011, 0b101, 0b0100000, 13, 14, 1, 1025, 1037, 1, 4, 0, "SRAI dst: 13 src: 14 shamt: 1"⟩,
    ⟨0x40005413, 0b0010011, 0b101, 0b0100000, 8, 0, 0, 1024, 1032, 1, 4, 0, "SRAI dst: 8 src: 0 shamt: 0"⟩,
    ⟨0x41F0D693, 0b0010011, 0b101, 0b0100000, 13, 1, 31, 1055, 1037, 1, 4, 0, "SRAI dst: 13 src: 1 shamt: 31"⟩,
    ⟨0x42005013, 0b0010011, 0b101, 0b0100001, 0, 0, 0, 1056, 1056, 0, 31, 7, "Error - Invalid Instruction"⟩,
    ⟨0xC0005013, 0b0010011, 0b101, 0b1100000, 0, 0, 0, 3072, 3072, 0, 31, 7, "Error - Invalid Instruction"⟩,
    ⟨0x02005013, 0b0010011, 0b101, 0b0000001, 0, 0, 0, 32, 32, 0, 31, 7, "Error - Invalid Instruction"⟩] : List Row).all Row.passes = true := by decide

theorem test_vectors_load_part1 : ([
    ⟨0x02802603, 0b0000011, 0b010, 0b0000001, 12, 0, 8, 40, 44, 1, 9, 3, "LW dst: 12 base: 0 offset: 40"⟩,
    ⟨0x06802E03, 0b0000011, 0b010, 0b0000011, 28, 0, 8, 104, 124, 1, 9, 3, "LW dst: 28 base: 0 offset: 104"⟩,
    ⟨0x00802283, 0b0000011, 0b010, 0b0000000, 5, 0, 8, 8, 5, 1, 9, 3, "LW dst: 5 base: 0 offset: 8"⟩,
    ⟨0x00002003, 0b0000011, 0b010, 0b0000000, 0, 0, 0, 0, 0, 1, 9, 3, "LW dst: 0 base: 0 offset: 0"⟩,
    ⟨0xFFF02003, 0b0000011, 0b010, 0b1111111, 0, 0, 31, 4095, 4064, 1, 9, 3, "LW dst: 0 base: 0 offset: 4095"⟩,
    ⟨0x00102003, 0b0000011, 0b010, 0b0000000, 0, 0, 1, 1, 0, 1, 9, 3, "LW dst: 0 base: 0 offset: 1"⟩,
    ⟨0x80002F83, 0b0000011, 0b010, 0b1000000, 31, 0, 0, 2048, 2079, 1, 9, 3, "LW dst: 31 base: 0 offset: 2048"⟩,
    ⟨0x00412083, 0b0000011, 0b010, 0b0000000, 1, 2, 4, 4, 1, 0, 31, 7, "Error - Invalid Instruction"⟩] : List Row).all Row.passes = true := by decide

theorem test_vectors_load_part2 : ([
    ⟨0x000FA003, 0b0000011, 0b010, 0b0000000, 0, 31, 0, 0, 0, 0, 31, 7, "Error - Invalid Instruction"⟩,
    ⟨0x00000003, 0b0000011, 0b000, 0b0000000, 0, 0, 0, 0, 0, 0, 31, 7, "Error - Invalid Instruction"⟩,
    ⟨0x00001003, 0b0000011, 0b001, 0b0000000, 0, 0, 0, 0, 0, 0, 31, 7, "Error - Invalid Instruction"⟩,
    ⟨0x00004003, 0b0000011, 0b100, 0b0000000, 0, 0, 0, 0, 0, 0, 31, 7, "Error - Invalid Instruction"⟩,
    ⟨0x00005003, 0b0000011, 0b101, 0b0000000, 0, 0, 0, 0, 0, 0, 31, 7, "Error - Invalid Instruction"⟩,
    ⟨0x00003003, 0b0000011, 0b011, 0b0000000, 0, 0, 0, 0, 0, 0, 31, 7, "Error - Invalid Instruction"⟩] : List Row).all Row.passes = true := by decide

theorem test_vectors_store_part1 : ([
    ⟨0x06402423, 0b0100011, 0b010, 0b0000011, 8, 0, 4, 100, 104, 1, 24, 4, "SW src: 4 base: 0 offset: 104"⟩,
    ⟨0x00602623, 0b0100011, 0b010, 0b0000000, 12, 0, 6, 6, 12, 1, 24, 4, "SW src: 6 base: 0 offset: 12"⟩,
    ⟨0x00002023, 0b0100011, 0b010, 0b0000000, 0, 0, 0, 0, 0, 1, 24, 4, "SW src: 0 base: 0 offset: 0"⟩,
    ⟨0x3E002FA3, 0b0100011, 0b010, 0b0011111, 31, 0, 0, 992, 1023, 1, 24, 4, "SW src: 0 base: 0 offset: 1023"⟩,
    ⟨0x000020A3, 0b0100011, 0b010, 0b0000000, 1, 0, 0, 0, 1, 1, 24, 4, "SW src: 0 base: 0 offset: 1"⟩,
    ⟨0x01F02023, 0b0100011, 0b010, 0b0000000, 0, 0, 31, 31, 0, 1, 24, 4, "SW src: 31 base: 0 offset: 0"⟩,
    ⟨0x40002023, 0b0100011, 0b010, 0b0100000, 0, 0, 0, 1024, 1024, 0, 31, 7, "Error - Invalid Instruction"⟩,
    ⟨0x80002023, 0b0100011, 0b010, 0b1000000, 0, 0, 0, 2048, 2048, 0, 31, 7, "Error - Invalid Instruction"⟩] : List Row).all Row.passes = true := by decide

theorem test_vectors_store_part2 : ([
    ⟨0xC0002023, 0b0100011, 0b010, 0b1100000, 0, 0, 0, 3072, 3072, 0, 31, 7, "Error - Invalid Instruction"⟩,
    ⟨0x00012023, 0b0100011, 0b010, 0b0000000, 0, 2, 0, 0, 0, 0, 31, 7, "Error - Invalid Instruction"⟩,
    ⟨0x00000023, 0b0100011, 0b000, 0b0000000, 0, 0, 0, 0, 0, 0, 31, 7, "Error - Invalid Instruction"⟩,
    ⟨0x00001023, 0b0100011, 0b001, 0b0000000, 0, 0, 0, 0, 0, 0, 31, 7, "Error - Invalid Instruction"⟩,
    ⟨0x00003023, 0b0100011, 0b011, 0b0000000, 0, 0, 0, 0, 0, 0, 31, 7, "Error - Invalid Instruction"⟩] : List Row).all Row.passes = true := by decide

theorem test_vectors_register_register_part1 : ([
    ⟨0x003100B3, 0b0110011, 0b000, 0b0000000, 1, 2, 3, 3, 1, 1, 21, 2, "ADD dst: 1 src1: 2 src2: 3"⟩,
    ⟨0x00000033, 0b0110011, 0b000, 0b0000000, 0, 0, 0, 0, 0, 1, 21, 2, "ADD dst: 0 src1: 0 src2: 0"⟩,
    ⟨0x01FF8FB3, 0b0110011, 0b000, 0b0000000, 31, 31, 31, 31, 31, 1, 21, 2, "ADD dst: 31 src1: 31 src2: 31"⟩,
    ⟨0x04000033, 0b0110011, 0b000, 0b0000010, 0, 0, 0, 64, 64, 0, 31, 7, "Error - Invalid Instruction"⟩,
    ⟨0x40628233, 0b0110011, 0b000, 0b0100000, 4, 5, 6, 1030, 1028, 1, 15, 2, "SUB dst: 4 src1: 5 src2: 6"⟩,
    ⟨0x42000033, 0b0110011, 0b000, 0b0100001, 0, 0, 0, 1056, 1056, 0, 31, 7, "Error - Invalid Instruction"⟩,
    ⟨0x029403B3, 0b0110011, 0b000, 0b0000001, 7, 8, 9, 41, 39, 1, 22, 2, "MUL dst: 7 src1: 8 src2: 9"⟩,
    ⟨0x00C59533, 0b0110011, 0b001, 0b0000000, 10, 11, 12, 12, 10, 1, 20, 2, "SLL dst: 10 src1: 11 src2: 12"⟩] : List Row).all Row.passes = true := by decide

theorem test_vectors_register_register_part2 : ([
    ⟨0x40001033, 0b0110011, 0b001, 0b0100000, 0, 0, 0, 1024, 1024, 0, 31, 7, "Error - Invalid Instruction"⟩,
    ⟨0x00F726B3, 0b0110011, 0b010, 0b0000000, 13, 14, 15, 15, 13, 1, 16, 2, "SLT dst: 13 src1: 14 src2: 15"⟩,
    ⟨0x0328A833, 0b0110011, 0b010, 0b0000001, 16, 17, 18, 50, 48, 1, 17, 2, "MULHSU dst: 16 src1: 17 src2: 18"⟩,
    ⟨0x015A39B3, 0b0110011, 0b011, 0b0000000, 19, 20, 21, 21, 19, 1, 11, 2, "SLTU dst: 19 src1: 20 src2: 21"⟩,
    ⟨0x038BBB33, 0b0110011, 0b011, 0b0000001, 22, 23, 24, 56, 54, 1, 18, 2, "MULHU dst: 22 src1: 23 src2: 24"⟩,
    ⟨0x01BD4CB3, 0b0110011, 0b100, 0b0000000, 25, 26, 27, 27, 25, 1, 14, 2, "XOR dst: 25 src1: 26 src2: 27"⟩,
    ⟨0x02004033, 0b0110011, 0b100, 0b0000001, 0, 0, 0, 32, 32, 0, 31, 7, "Error - Invalid Instruction"⟩,
    ⟨0x01EEDE33, 0b0110011, 0b101, 0b0000000, 28, 29, 30, 30, 28, 1, 19, 2, "SRL dst: 28 src1: 29 src2: 30"⟩] : List Row).all Row.passes = true := by decide

theorem test_vectors_register_register_part3 : ([
    ⟨0x02005033, 0b0110011, 0b101, 0b0000001, 0, 0, 0, 32, 32, 0, 31, 7, "Error - Invalid Instruction"⟩,
    ⟨0x4020DFB3, 0b0110011, 0b101, 0b0100000, 31, 1, 2, 1026, 1055, 1, 13, 2, "SRA dst: 31 src1: 1 src2: 2"⟩,
    ⟨0x025211B3, 0b0110011, 0b001, 0b0000001, 3, 4, 5, 37, 35, 1, 12, 2, "MULH dst: 3 src1: 4 src2: 5"⟩,
    ⟨0x0083E333, 0b0110011, 0b110, 0b0000000, 6, 7, 8, 8, 6, 1, 23, 2, "OR dst: 6 src1: 7 src2: 8"⟩,
    ⟨0x02006033, 0b0110011, 0b110, 0b0000001, 0, 0, 0, 32, 32, 0, 31, 7, "Error - Invalid Instruction"⟩,
    ⟨0x00B574B3, 0b0110011, 0b111, 0b0000000, 9, 10, 11, 11, 9, 1, 10, 2, "AND dst: 9 src1: 10 src2: 11"⟩,
    ⟨0x02007033, 0b0110011, 0b111, 0b0000001, 0, 0, 0, 32, 32, 0, 31, 7, "Error - Invalid Instruction"⟩,
    ⟨0x40007033, 0b0110011, 0b111, 0b0100000, 0, 0, 0, 1024, 1024, 0, 31, 7, "Error - Invalid Instruction"⟩] : List Row).all Row.passes = true := by decide

theorem test_vectors_register_register_part4 : ([
    ⟨0x0052A2B3, 0b0110011, 0b010, 0b0000000, 5, 5, 5, 5, 5, 1, 16, 2, "SLT dst: 5 src1: 5 src2: 5"⟩,
    ⟨0xFE0000B3, 0b0110011, 0b000, 0b1111111, 1, 0, 0, 4064, 4065, 0, 31, 7, "Error - Invalid Instruction"⟩] : List Row).all Row.passes = true := by decide

theorem test_vectors_nop : ([
    ⟨0x0000007F, 0b1111111, 0b000, 0b0000000, 0, 0, 0, 0, 0, 1, 25, 5, "NOP"⟩,
    ⟨0xFFFFFFFF, 0b1111111, 0b111, 0b1111111, 31, 31, 31, 4095, 4095, 1, 25, 5, "NOP"⟩,
    ⟨0x1234567F, 0b1111111, 0b101, 0b0001001, 12, 8, 3, 291, 300, 1, 25, 5, "NOP"⟩,
    ⟨0x0000007E, 0b1111110, 0b000, 0b0000000, 0, 0, 0, 0, 0, 0, 31, 7, "Error - Invalid Instruction"⟩,
    ⟨0x0000003F, 0b0111111, 0b000, 0b0000000, 0, 0, 0, 0, 0, 0, 31, 7, "Error - Invalid Instruction"⟩] : List Row).all Row.passes = true := by decide

theorem test_vectors_invalid_part1 : ([
    ⟨0x00000000, 0b0000000, 0b000, 0b0000000, 0, 0, 0, 0, 0, 0, 31, 7, "Error - Invalid Instruction"⟩,
    ⟨0x00000001, 0b0000001, 0b000, 0b0000000, 0, 0, 0, 0, 0, 0, 31, 7, "Error - Invalid Instruction"⟩,
    ⟨0x00000012, 0b0010010, 0b000, 0b0000000, 0, 0, 0, 0, 0, 0, 31, 7, "Error - Invalid Instruction"⟩,
    ⟨0x0000006F, 0b1101111, 0b000, 0b0000000, 0, 0, 0, 0, 0, 0, 31, 7, "Error - Invalid Instruction"⟩,
    ⟨0x00000067, 0b1100111, 0b000, 0b0000000, 0, 0, 0, 0, 0, 0, 31, 7, "Error - Invalid Instruction"⟩,
    ⟨0x00000063, 0b1100011, 0b000, 0b0000000, 0, 0, 0, 0, 0, 0, 31, 7, "Error - Invalid Instruction"⟩,
    ⟨0x00000037, 0b0110111, 0b000, 0b0000000, 0, 0, 0, 0, 0, 0, 31, 7, "Error - Invalid Instruction"⟩,
    ⟨0x00000017, 0b0010111, 0b000, 0b0000000, 0, 0, 0, 0, 0, 0, 31, 7, "Error - Invalid Instruction"⟩] : List Row).all Row.passes = true := by decide

theorem test_vectors_invalid_part2 : ([
    ⟨0x0000000F, 0b0001111, 0b000, 0b0000000, 0, 0, 0, 0, 0, 0, 31, 7, "Error - Invalid Instruction"⟩,
    ⟨0x00000073, 0b1110011, 0b000, 0b0000000, 0, 0, 0, 0, 0, 0, 31, 7, "Error - Invalid Instruction"⟩,
    ⟨0x00100073, 0b1110011, 0b000, 0b0000000, 0, 0, 1, 1, 0, 0, 31, 7, "Error - Invalid Instruction"⟩,
    ⟨0x00002073, 0b1110011, 0b010, 0b0000000, 0, 0, 0, 0, 0, 0, 31, 7, "Error - Invalid Instruction"⟩,
    ⟨0x0000001B, 0b0011011, 0b000, 0b0000000, 0, 0, 0, 0, 0, 0, 31, 7, "Error - Invalid Instruction"⟩,
    ⟨0x0000003B, 0b0111011, 0b000, 0b0000000, 0, 0, 0, 0, 0, 0, 31, 7, "Error - Invalid Instruction"⟩] : List Row).all Row.passes = true := by decide

/-! ### Reset, and the placing of a word -/

/-- R133 at the model's reset word: an Invalid word drives valid 0, mnem 31, shape 7. -/
theorem test_reset_ports : State.reset.ports = portsOf 0 ∧ State.reset.ports.mnem = 31 := by decide

/-- A word of fewer bits than 32 has zeros above: 0x7F alone is the smallest NOP word (R107). -/
theorem test_table_word_short : decodeTableWord 8 0x7F = some .nop := by decide

/-- There is no instruction longer than 32 bits (R34). -/
theorem test_table_word_long : decodeTableWord 64 0x7F = none := by decide

/-- D9: the two orders on the bytes 13 00 F0 FF; 0xFFF00013 is the spec's ADDI vector. -/
theorem test_word_of_bytes : wordOfBytes .littleEndian 0x13 0x00 0xF0 0xFF = 0xFFF00013 ∧
    wordOfBytes .bigEndian 0xFF 0xF0 0x00 0x13 = 0xFFF00013 := by decide

/-! ### Witnesses: the hypotheses of the statements are met -/

/-- A small state that presents one word next. -/
def presenting (w : Word) : State := State.reset.supplyWords [w]

/-- `step s = .next t`, for any state: the hypothesis of the statements about what a step leaves. -/
theorem witness_step_goes_on : ∃ t, step (presenting 0x00510093) = .next t := ⟨_, rfl⟩

/-- With nothing supplied: the empty-supply clauses. -/
theorem witness_step_undriven : State.reset.supply = [] ∧ (presenting 0).supply ≠ [] := by decide

theorem witness_StepRunsDecodedInstruction : decode (nextWord (presenting 0x00510093)) = .ok (.addi 1 2 5) := by decide

/-- Two different words that agree on every bit R60 says SW reads, and two for the other classes. -/
theorem witness_UnreadBitsAreIgnored :
    let v : Word := 0x06402423
    let w : Word := 0x00002023
    v ≠ w ∧ v.extractLsb' 0 7 = w.extractLsb' 0 7 ∧ v.extractLsb' 12 8 = w.extractLsb' 12 8 ∧
    v.extractLsb' 30 2 = w.extractLsb' 30 2 ∧ v.extractLsb' 12 3 = w.extractLsb' 12 3 := by decide

theorem witness_UnreadBitsAreIgnored_funct7 :
    let v : Word := 0x003100B3
    let w : Word := 0x01FF8FB3
    v ≠ w ∧ v.extractLsb' 0 7 = w.extractLsb' 0 7 ∧ v.extractLsb' 12 3 = w.extractLsb' 12 3 ∧
    v.extractLsb' 25 7 = w.extractLsb' 25 7 := by decide

/-- Each mnemonic with a word its predicate selects: PredicatesExclusive, StepAssemblesOperands, and every rule's condition. -/
theorem witness_every_predicate : ([
    (.ADDI, 0x00510093),
    (.SLTI, 0x06432293),
    (.SLTIU, 0x00143393),
    (.XORI, 0x0FF54493),
    (.ORI, 0x55586793),
    (.ANDI, 0xFFF97893),
    (.SLLI, 0x00721193),
    (.SRLI, 0x01F65593),
    (.SRAI, 0x40175693),
    (.LW, 0x02802603),
    (.SW, 0x06402423),
    (.ADD, 0x003100B3),
    (.SUB, 0x40628233),
    (.MUL, 0x029403B3),
    (.SLL, 0x00C59533),
    (.SLT, 0x00F726B3),
    (.MULHSU, 0x0328A833),
    (.SLTU, 0x015A39B3),
    (.MULHU, 0x038BBB33),
    (.XOR, 0x01BD4CB3),
    (.SRL, 0x01EEDE33),
    (.SRA, 0x4020DFB3),
    (.MULH, 0x025211B3),
    (.OR, 0x0083E333),
    (.AND, 0x00B574B3),
    (.NOP, 0x0000007F)] : List (Mnemonic × Word)).all (fun p => predicate p.1 p.2) = true := by decide

/-- The same for the steps the rules speak of: each of those words, supplied, is the word the next step sees. -/
theorem witness_rules (w : Word) : nextWord (presenting w) = w := rfl

/-- One word for each case (a) to (f) of R62, and one for each half of (d), (e) and (f). -/
theorem witness_InvalidSpace : ([0x0000006F, 0x02001013, 0x42005013, 0x00000003, 0x00412083, 0x00000023, 0x00012023,
    0x40002023, 0x04000033, 0x40001033, 0x02004033] : List Word).all (fun w => decodeResult w == .invalid w) = true := by decide

theorem witness_LowBitsNotAllOnesIsInvalid : (nextWord (presenting 0x00000012)).toNat % 4 ≠ 3 := by decide

theorem witness_ClassSizes : shapeOf .SRAI = .immShift ∧ shapeOf .SW = .store ∧ shapeOf .MULHU = .regReg := by decide

theorem witness_PriorityOrderUnobservable : priority.reverse ≠ priority ∧ priority.reverse.Perm priority :=
  ⟨by decide, List.reverse_perm _⟩

/-- Both directions of well-formedness, at the boundary of SW's offset. -/
theorem witness_DecodeEncode : (Instr.sw 31 0 1023).WellFormed ∧ ¬ (Instr.sw 31 0 1024).WellFormed ∧
    ¬ (Instr.lw 31 31 0).WellFormed := by decide

/-- A decoded word that is not NOP, and a NOP word with ignored bits set. -/
theorem witness_EncodeDecode : decode 0x01FF8FB3 = .ok (.add 31 31 31) ∧ decode 0xFFFFFFFF = .ok .nop := by decide

/-- Two different states that present the same word. -/
theorem witness_StatelessDecode :
    let s := presenting 0x00510093
    let s' := { presenting 0x00510093 with instr := 0xFFFFFFFF, result := .ok (.noOperand .NOP), undriven := 7 }
    s ≠ s' ∧ nextWord s = nextWord s' := by decide

/-- The last word of a stream. -/
theorem witness_WordsAreDecodedInOrder : 2 < ([0x00002083, 0x00402103, 0x002081B3] : List Word).length := by decide

/-- valid = 1 and valid = 0 both occur, and an instruction is delivered. -/
theorem witness_CodesDriven : (portsOf 0x0000007F).valid = 1 ∧ (portsOf 0x0000007E).valid = 0 ∧
    decodeResult 0x0000007F = .ok (.noOperand .NOP) := by decide

/-- A word no predicate selects. -/
theorem witness_InvalidRule (mn : Mnemonic) : predicate mn (nextWord (presenting 0x04000033)) = false := by
  cases mn <;> decide

theorem witness_InvalidLeavesNoTrace (mn : Mnemonic) : predicate mn 0x00412083 = false := by
  cases mn <;> decide

/-- Load and store results, at the ends of the offset ranges. -/
theorem witness_LoadStoreOperands : decodeResult 0xFFF02003 = .ok (.load .LW 0 0 4095) ∧
    decodeResult 0x00002003 = .ok (.load .LW 0 0 0) ∧ decodeResult 0x3E002FA3 = .ok (.store .SW 0 0 1023) := by decide

/-- Immediate and load results of words with bit 31 set. -/
theorem witness_ImmediatesAreNotSignExtended : decodeResult 0x80000013 = .ok (.immArith .ADDI 0 0 2048) ∧
    decodeResult 0x80002F83 = .ok (.load .LW 31 0 2048) ∧ (0x80000013 : Word).getLsbD 31 = true := by decide

/-- Each shape is delivered by some word: the seven equivalences of R81. -/
theorem witness_PortsCorrespondToResult : decodeResult 0x01F65593 = .ok (.immShift .SRLI 11 12 31) ∧
    decodeResult 0x00B574B3 = .ok (.regReg .AND 9 10 11) ∧ decodeResult 0x1234567F = .ok (.noOperand .NOP) ∧
    decodeResult 0 = .invalid 0 := by decide

/-- Two different words with the same classifier inputs. -/
theorem witness_ClassifierReadsItsInputsOnly :
    let v : Word := 0x003100B3
    let w : Word := 0x01FF8FB3
    v ≠ w ∧ (slice v).opcode = (slice w).opcode ∧ (slice v).funct3 = (slice w).funct3 ∧ (slice v).funct7 = (slice w).funct7 ∧
    ((slice v).rs1 = 0 ↔ (slice w).rs1 = 0) := by decide

/-- A load, a store and another result are delivered: the three clauses. -/
theorem witness_LocationsHaveBaseZero : decodeResult 0x02802603 = .ok (.load .LW 12 0 40) ∧
    decodeResult 0x06402423 = .ok (.store .SW 4 0 104) ∧ decodeResult 0x0000007F = .ok (.noOperand .NOP) := by decide

/-- The text of a number begins with 0 only at 0. -/
theorem witness_NumbersAreDecimal : (decimal (0 : UInt5)).toList.head? = some '0' ∧ (decimal (10 : UInt5)).toList = ['1', '0'] := by
  decide

end Sys2Proof.Tests
end

section
/-! PROOFS. The classifier and the decoder agree, because two different rows of the predicate table never hold together; hence
what one step does, and what a consumer sees of a stream. -/

namespace Sys2Proof.Machine

/-! ### The rows of the predicate table exclude each other (30_encoding.md R58, 40_decode.md R73) -/

/-- Two entries of the table both name a value, and not the same one. -/
def entriesDiffer {n : Nat} : Option (BitVec n) → Option (BitVec n) → Bool
  | some a, some b => a != b
  | _, _ => false

/-- Two rows ask for different opcodes, or for different values of funct3 or funct7. -/
def PredicateRow.conflicts (r r' : PredicateRow) : Bool :=
  r.opcode != r'.opcode || entriesDiffer r.funct3 r'.funct3 || entriesDiffer r.funct7 r'.funct7

theorem not_entriesDiffer_of_entryHolds {n : Nat} {e e' : Option (BitVec n)} {v : BitVec n} (h : entryHolds e v = true)
    (h' : entryHolds e' v = true) : entriesDiffer e e' = false := by
  cases e <;> cases e' <;> simp_all [entriesDiffer, entryHolds]

theorem not_conflicts_of_rowHolds {r r' : PredicateRow} {f : Fields} (h : rowHolds r f = true) (h' : rowHolds r' f = true) :
    r.conflicts r' = false := by
  obtain ⟨hop, h3, h7, -⟩ := (rowHolds_iff r f).mp h
  obtain ⟨hop', h3', h7', -⟩ := (rowHolds_iff r' f).mp h'
  simp [PredicateRow.conflicts, ← hop, ← hop', not_entriesDiffer_of_entryHolds h3 h3', not_entriesDiffer_of_entryHolds h7 h7']

theorem mem_priority (mn : Mnemonic) : mn ∈ priority := by
  cases mn <;> decide

theorem eq_or_conflicts_of_mem_priority : ∀ m ∈ priority, ∀ n ∈ priority,
    m = n ∨ (predicateRow m).conflicts (predicateRow n) = true := by
  decide

theorem eq_of_rowHolds {m n : Mnemonic} {f : Fields} (hm : rowHolds (predicateRow m) f = true)
    (hn : rowHolds (predicateRow n) f = true) : m = n :=
  (eq_or_conflicts_of_mem_priority m (mem_priority m) n (mem_priority n)).resolve_right
    (by simp [not_conflicts_of_rowHolds hm hn])

/-! ### The machine's decoder computes the decode function (R71) -/

theorem classify_eq_some {mn : Mnemonic} {w : Word} (h : predicate mn w = true) : classify w = some mn := by
  cases hc : classify w with
  | none => exact absurd h (List.find?_eq_none.mp hc mn (mem_priority mn))
  | some m =>
    have hm : predicate m w = true := List.find?_some (p := (predicate · w)) hc
    rw [eq_of_rowHolds hm h]

theorem classify_eq_none {w : Word} (h : ∀ mn, predicate mn w = false) : classify w = none :=
  List.find?_eq_none.mpr fun mn _ => by simp [h mn]

theorem resultOf_decode (w : Word) : resultOf (decode w) = decodeResult w := by
  have hfits := decode_fits w
  unfold decodeResult
  cases hd : decode w with
  | ok i =>
    rw [hd] at hfits
    obtain ⟨hrow, hval⟩ := hfits
    simp only [classify_eq_some hrow, resultOf, hval]
  | invalidInstruction v =>
    rw [hd] at hfits
    obtain ⟨hv, hrows⟩ := hfits
    simp only [classify_eq_none hrows, resultOf, hv]

/-- A step delivers the decode of the next word (R71, R80). -/
theorem step_eq_deliver_decodeResult (s : State) :
    step s = .next (deliver (decodeResult (nextWord s)) (driveFields (present s))) := by
  rw [step_eq_deliver, resultOf_decode]

/-! ### A supplied stream (R7, R30) -/

/-- A step on a supplied stream decodes its first word and leaves the rest of the stream to be presented. -/
theorem step_supplyWords_cons (s : State) (w : Word) (ws : List Word) :
    step (s.supplyWords (w :: ws)) =
      .next ((deliver (decodeResult w) (driveFields { s with instr := w })).supplyWords ws) :=
  step_eq_deliver_decodeResult _

/-- What a consumer makes of the results of a supplied stream: the steps add nothing to the decodes of the words, in order. -/
theorem observe_supplyWords {σ : Type} (execute : Decoded → σ → σ) (onInvalid : Word → σ → σ) (ws : List Word) (s : State)
    (c : σ) :
    observe execute onInvalid ws.length (s.supplyWords ws) c =
      (ws.map decodeResult).foldl (fun c r => consume execute onInvalid r c) c := by
  induction ws generalizing s c with
  | nil => rfl
  | cons w ws ih =>
    simp only [List.length_cons, observe, step_supplyWords_cons, supplyWords_result, deliver_result, List.map_cons,
      List.foldl_cons]
    exact ih _ _

/-- Settles O52, by induction on the stream: each step hands on the decode of the first word and the rest of the stream. -/
theorem consumerSeesTheSequenceOfResults : Obligations.ConsumerSeesTheSequenceOfResults := by
  unfold Obligations.ConsumerSeesTheSequenceOfResults
  exact fun _ => observe_supplyWords

end Sys2Proof.Machine
end

section
/-! PROOFS. The block with a word at its input: all outputs are the function of that word, at reset and after every step, and a
second word leaves nothing of the first; then the operands a step reports for LW and SW. -/

namespace Sys2Proof.Machine

/-! ### The block with a word at its input (10_state.md R14, R22) -/

/-- The block with `w` at its input: the field ports are driven and the decode of `w` is delivered. -/
def State.showing (s : State) (w : Word) : State := deliver (decodeResult w) (driveFields { s with instr := w })

section Showing

variable (s : State) (v w : Word)

@[simp] theorem showing_instr : (s.showing w).instr = w := rfl

@[simp] theorem showing_result : (s.showing w).result = decodeResult w := rfl

@[simp] theorem showing_ports : (s.showing w).ports = portsOf w := rfl

@[simp] theorem showing_supply : (s.showing w).supply = s.supply := rfl

@[simp] theorem showing_undriven : (s.showing w).undriven = s.undriven := rfl

theorem showing_coherent : (s.showing w).Coherent := ⟨rfl, rfl⟩

/-- The next word overwrites all that the block shows of a word: it stores nothing (R14). -/
theorem showing_showing : (s.showing v).showing w = s.showing w := rfl

/-- Everything a step does: the supplier presents a word and the block shows it. -/
theorem step_eq_showing : step s = .next ((present s).showing (nextWord s)) := by
  rw [step_eq_deliver_decodeResult, State.showing, ← present_instr]

theorem step_supplyWords_eq_showing (ws : List Word) :
    step (s.supplyWords (w :: ws)) = .next ((s.showing w).supplyWords ws) :=
  step_supplyWords_cons s w ws

end Showing

theorem eq_showing_of_step {s t : State} (h : step s = .next t) : t = (present s).showing (nextWord s) :=
  Host.Outcome.next.inj (h.symm.trans (step_eq_showing s))

theorem result_of_step {s t : State} (h : step s = .next t) : t.result = decodeResult (nextWord s) := by
  rw [eq_showing_of_step h, showing_result]

/-- The state after reset shows the word at its input. -/
theorem reset_eq_showing : State.reset = State.reset.showing State.reset.instr := by decide

/-- Settles O1: the state after reset shows a word, and such a state is coherent. -/
theorem resetOutputsFollowInput : Obligations.ResetOutputsFollowInput := by
  unfold Obligations.ResetOutputsFollowInput
  obtain ⟨hresult, hports⟩ : State.reset.Coherent := reset_eq_showing ▸ showing_coherent State.reset State.reset.instr
  exact ⟨hresult, hports, rfl⟩

/-- Settles O20: whatever the state was, the step ends in one that shows the next word. -/
theorem everyStepIsCoherent : Obligations.EveryStepIsCoherent := by
  unfold Obligations.EveryStepIsCoherent
  intro s
  refine ⟨⟨_, step_eq_showing s⟩, fun t ht => ?_⟩
  rw [eq_showing_of_step ht]
  exact showing_coherent _ _

/-- Settles O21: input, result and ports of a state that shows a word are functions of that word. -/
theorem statelessDecode : Obligations.StatelessDecode := by
  unfold Obligations.StatelessDecode
  intro s s' t t' hw ht ht'
  rw [eq_showing_of_step ht, eq_showing_of_step ht', hw]
  exact ⟨rfl, rfl, rfl⟩

/-! ### Runs on a supplied stream (R30, R32) -/

theorem run_succ_of_step {s t : State} (h : step s = .next t) (n : Nat) :
    Sys2Proof.core.run (n + 1) s = Sys2Proof.core.run n t := by
  have hcore : Sys2Proof.core.step s = .next t := h
  simp only [Host.Core.run, hcore]

/-- A run on a supplied stream shows its first word and runs on with the rest. -/
theorem run_supplyWords_cons (n : Nat) (s : State) (w : Word) (ws : List Word) :
    Sys2Proof.core.run (n + 1) (s.supplyWords (w :: ws)) = Sys2Proof.core.run n ((s.showing w).supplyWords ws) :=
  run_succ_of_step (step_supplyWords_eq_showing s w ws) n

/-- After `k + 1` steps on a stream the block shows word `k`, and the words after it are still to be presented. -/
theorem run_supplyWords (ws : List Word) (s : State) (k : Nat) (hk : k < ws.length) :
    Sys2Proof.core.run (k + 1) (s.supplyWords ws) = .next ((s.showing ws[k]).supplyWords (ws.drop (k + 1))) := by
  induction ws generalizing s k with
  | nil => exact absurd hk (Nat.not_lt_zero k)
  | cons w ws ih =>
    rw [run_supplyWords_cons]
    cases k with
    | zero => rfl
    | succ k =>
      rw [ih (s.showing w) k (Nat.lt_of_succ_lt_succ hk), showing_showing]
      rfl

/-- Settles O22: the end of the run is known whole. -/
theorem wordsAreDecodedInOrder : Obligations.WordsAreDecodedInOrder := by
  unfold Obligations.WordsAreDecodedInOrder
  exact fun s ws k hk => ⟨_, run_supplyWords ws s k hk, rfl, rfl, rfl, rfl, rfl⟩

/-- Settles O41: the second word overwrites what the block shows of the first, be that Invalid or not. -/
theorem invalidLeavesNoTrace : Obligations.InvalidLeavesNoTrace := by
  unfold Obligations.InvalidLeavesNoTrace
  intro s bad w _
  refine ⟨(s.showing w).supplyWords [], ?_, step_supplyWords_eq_showing s w []⟩
  rw [run_supplyWords [bad, w] s 1 Nat.one_lt_two]
  rfl

/-! ### The operands of LW and SW (42_load_store.md R91, R92) -/

theorem decodeResult_of_predicate {mn : Mnemonic} {w : Word} (h : predicate mn w = true) :
    decodeResult w = .ok (assemble mn (slice w)) := by
  simp only [decodeResult, classify_eq_some h]

/-- An instruction is delivered only where a row of the table selects the word, and it is the one assembled for that row. -/
theorem exists_predicate_of_decodeResult {w : Word} {d : Decoded} (h : decodeResult w = .ok d) :
    ∃ mn, predicate mn w = true ∧ assemble mn (slice w) = d := by
  unfold decodeResult at h
  cases hc : classify w with
  | none => simp [hc] at h
  | some mn => exact ⟨mn, List.find?_some (p := (predicate · w)) hc, by simpa [hc] using h⟩

/-- The assembler gives each mnemonic its one shape (R69, R70). -/
theorem assemble_shape (mn : Mnemonic) (f : Fields) : (assemble mn f).shape = shapeOf mn := by
  cases mn <;> rfl

theorem eq_LW_of_shapeOf {mn : Mnemonic} (h : shapeOf mn = .load) : mn = .LW := by
  cases mn <;> simp_all [shapeOf]

theorem eq_SW_of_shapeOf {mn : Mnemonic} (h : shapeOf mn = .store) : mn = .SW := by
  cases mn <;> simp_all [shapeOf]

theorem rs1Field_of_predicate_LW {w : Word} (h : predicate .LW w = true) : rs1Field w = 0 := by
  obtain ⟨-, -, -, hrs1, -⟩ := (rowHolds_iff _ _).mp h
  exact hrs1 rfl

theorem fields_of_predicate_SW {w : Word} (h : predicate .SW w = true) :
    rs1Field w = 0 ∧ (funct7Field w).extractLsb' 5 2 = 0 := by
  obtain ⟨-, -, -, hrs1, htop⟩ := (rowHolds_iff _ _).mp h
  exact ⟨hrs1 rfl, htop rfl⟩

/-- The store offset as arithmetic on the word's number (R44). -/
theorem storeOffsetField_toNat (w : Word) :
    (storeOffsetField w).toNat = w.toNat / 33554432 * 32 + w.toNat / 128 % 32 := by
  have hlo := (immSLoField w).isLt
  rw [storeOffsetField, BitVec.toNat_append, ← Nat.shiftLeft_add_eq_or_of_lt hlo, Nat.shiftLeft_eq]
  simp only [immSHiField, immSLoField, BitVec.extractLsb'_toNat, Nat.shiftRight_eq_div_pow]
  omega

/-- With bits [31:30] clear the store offset is at most 1023 (R55). -/
theorem storeOffsetField_le_of_top00 {w : Word} (h : (funct7Field w).extractLsb' 5 2 = 0) :
    (storeOffsetField w).toNat ≤ 1023 := by
  rw [← top00_iff, storeOffsetField, extract_above _ _ (le_refl 5), Nat.sub_self, BitVec.extractLsb'_eq_self]
  exact h

/-- A load is delivered for a word of LW's row only, with base 0. -/
theorem load_delivered {w : Word} {mn : Mnemonic} {d b : UInt5} {o : UInt12}
    (h : decodeResult w = .ok (.load mn d b o)) : mn = .LW ∧ b = 0 := by
  obtain ⟨m, hm, hasm⟩ := exists_predicate_of_decodeResult h
  obtain rfl := eq_LW_of_shapeOf ((assemble_shape m (slice w)).symm.trans (congrArg Decoded.shape hasm))
  obtain ⟨rfl, -, rfl, -⟩ := Decoded.load.inj hasm
  exact ⟨rfl, rs1Field_of_predicate_LW hm⟩

/-- A store is delivered for a word of SW's row only, with base 0 and the word's store offset. -/
theorem store_delivered {w : Word} {mn : Mnemonic} {r b : UInt5} {o : UInt12}
    (h : decodeResult w = .ok (.store mn r b o)) :
    mn = .SW ∧ b = 0 ∧ o.toNat ≤ 1023 ∧ o.toNat = w.toNat / 33554432 % 32 * 32 + w.toNat / 128 % 32 := by
  obtain ⟨m, hm, hasm⟩ := exists_predicate_of_decodeResult h
  obtain rfl := eq_SW_of_shapeOf ((assemble_shape m (slice w)).symm.trans (congrArg Decoded.shape hasm))
  obtain ⟨rfl, -, rfl, rfl⟩ := Decoded.store.inj hasm
  obtain ⟨hbase, htop⟩ := fields_of_predicate_SW hm
  have hval : (slice w).storeOffset.toNat = _ := storeOffsetField_toNat w
  have hle : (slice w).storeOffset.toNat ≤ 1023 := storeOffsetField_le_of_top00 htop
  exact ⟨rfl, hbase, hle, by omega⟩

/-- Every destination and every offset of a load is encoded by a word (R15, R27). -/
theorem decodeResult_encode_lw (r : UInt5) (o : UInt12) :
    decodeResult (encode (.lw r 0 o)) = .ok (.load .LW r 0 o) := by
  have hrow : predicate .LW (encode (.lw r 0 o)) = true := Laws.EncodesRow.lw r 0 o rfl
  rw [decodeResult_of_predicate hrow]
  simp [assemble, shapeOf, slice, encode, iFormat_eq_rFormat, high_append_low]

/-- Every source and every offset up to 1023 of a store is encoded by a word (R15, R55). -/
theorem decodeResult_encode_sw (r : UInt5) (o : UInt12) (h : o.toNat ≤ 1023) :
    decodeResult (encode (.sw r 0 o)) = .ok (.store .SW r 0 o) := by
  have hwf : (Instr.sw r 0 o).WellFormed := by simp [Instr.WellFormed, Instr.wellFormed, h]
  have hrow : predicate .SW (encode (.sw r 0 o)) = true := Laws.EncodesRow.sw r 0 o hwf
  rw [decodeResult_of_predicate hrow]
  simp [assemble, shapeOf, slice, encode, sFormat, high_append_low]

/-- Settles O42: what is delivered comes from the rows of LW and SW, and the encoder's words deliver every value. -/
theorem loadStoreOperands : Obligations.LoadStoreOperands := by
  unfold Obligations.LoadStoreOperands
  refine ⟨fun s t ht mn d b o hr => ?_, fun s t ht mn r b o hr => ?_, fun s r o => ?_, fun s r o ho => ?_⟩
  · exact load_delivered ((result_of_step ht).symm.trans hr)
  · exact store_delivered ((result_of_step ht).symm.trans hr)
  · exact ⟨_, _, step_supplyWords_eq_showing s _ [], decodeResult_encode_lw r o⟩
  · exact ⟨_, _, step_supplyWords_eq_showing s _ [], decodeResult_encode_sw r o ho⟩

end Sys2Proof.Machine
end

section
/-! PROOFS. The supplier and the consumer around the block (20_memory.md): which word a step takes from the supply and what of the
supply it leaves, the two byte orders of a word, and the location a consumer gives to a load or a store. -/

namespace Sys2Proof.Machine

/-! ### What a step takes from the supply (R28, R32) -/

theorem nextWord_of_supply_cons {s : State} {w : Word} {ws : List Word} (h : s.supply = w :: ws) : nextWord s = w := by
  simp only [nextWord, h]

/-- The free-value counter advances only where nothing is left to present. -/
@[simp] theorem present_undriven (s : State) :
    (present s).undriven = if s.supply = [] then s.undriven + 1 else s.undriven := by
  unfold present
  cases s.supply <;> rfl

/-- Settles O49: a step ends in what `present` leaves, showing the next word; the two cases are those of the supply. -/
theorem stepFrame : Obligations.StepFrame := by
  unfold Obligations.StepFrame
  intro s t ht
  obtain rfl := eq_showing_of_step ht
  refine ⟨showing_instr _ _, fun w ws hs => ?_, fun hs => ?_⟩
  · exact ⟨nextWord_of_supply_cons hs, by simp [hs], by simp [hs]⟩
  · exact ⟨by simp [hs], by simp [hs]⟩

/-- All 32 bits of a table word are taken as they stand. -/
theorem tableWord_toNat (w : Word) : tableWord 32 w.toNat = w := by
  rw [tableWord, Nat.mod_eq_of_lt w.isLt]
  exact (BitVec.ofNat_toNat 32 w).trans (BitVec.setWidth_eq w)

/-- Placing a word for the next fetch is supplying a stream of that one word. -/
theorem withFetchWord_toNat (s : State) (w : Word) : s.withFetchWord 32 w.toNat = s.supplyWords [w] := by
  rw [State.withFetchWord, tableWord_toNat]
  rfl

/-- Settles O3: the step on the one-word stream shows its word and leaves the rest of the supply. -/
theorem fetchWordIsRunNext : Obligations.FetchWordIsRunNext := by
  unfold Obligations.FetchWordIsRunNext
  intro s w
  rw [withFetchWord_toNat]
  exact ⟨_, step_supplyWords_eq_showing s w [], rfl, rfl, rfl, rfl, rfl⟩

/-! ### A word from four bytes (R26) -/

/-- The number of a concatenation: the high part counts in units above the low one. -/
theorem append_toNat {m n : Nat} (x : BitVec m) (y : BitVec n) : (x ++ y).toNat = x.toNat * 2 ^ n + y.toNat := by
  rw [BitVec.toNat_append, ← Nat.shiftLeft_add_eq_or_of_lt y.isLt, Nat.shiftLeft_eq]

/-- Four bytes, the most significant first. -/
theorem append_bytes_toNat (b3 b2 b1 b0 : Byte) :
    (b3 ++ b2 ++ b1 ++ b0).toNat = b0.toNat + 256 * b1.toNat + 65536 * b2.toNat + 16777216 * b3.toNat := by
  simp only [append_toNat]
  omega

/-- Settles O50: the two orders concatenate the same bytes from opposite ends. -/
theorem wordOfBytesValue : Obligations.WordOfBytesValue := by
  unfold Obligations.WordOfBytesValue
  exact fun b0 b1 b2 b3 => ⟨append_bytes_toNat b3 b2 b1 b0, append_bytes_toNat b0 b1 b2 b3⟩

/-! ### The location of a load or a store (R24, R29) -/

/-- The assembler keeps the mnemonic it was given (R70). -/
theorem assemble_mnemonic (mn : Mnemonic) (f : Fields) : (assemble mn f).mnemonic = mn := by
  cases mn <;> rfl

/-- Only loads and stores name a location. -/
theorem locationOf_eq_none {α : Type} (memoryMap : UInt5 → UInt12 → α) {d : Decoded} (hload : d.shape ≠ .load)
    (hstore : d.shape ≠ .store) : locationOf memoryMap d = none := by
  cases d with
  | load => exact absurd rfl hload
  | store => exact absurd rfl hstore
  | immShift | immArith | regReg | noOperand => rfl

/-- Settles O53: what is delivered was assembled for a row that holds of the word; the rows of LW and SW make the base zero, and no
other row has the shape of a load or a store. -/
theorem locationsHaveBaseZero : Obligations.LocationsHaveBaseZero := by
  unfold Obligations.LocationsHaveBaseZero
  intro α memoryMap s t d ht hr
  obtain ⟨mn, hrow, rfl⟩ := exists_predicate_of_decodeResult ((result_of_step ht).symm.trans hr)
  rw [assemble_mnemonic]
  refine ⟨?_, ?_, fun hlw hsw => ?_⟩
  · rintro rfl
    have hbase : (slice (nextWord s)).rs1 = 0 := rs1Field_of_predicate_LW hrow
    exact ⟨(slice (nextWord s)).immI, hbase ▸ rfl⟩
  · rintro rfl
    obtain ⟨hrs1, htop⟩ := fields_of_predicate_SW hrow
    have hbase : (slice (nextWord s)).rs1 = 0 := hrs1
    exact ⟨(slice (nextWord s)).storeOffset, storeOffsetField_le_of_top00 htop, hbase ▸ rfl⟩
  · refine locationOf_eq_none memoryMap ?_ ?_ <;> rw [assemble_shape]
    · exact mt eq_LW_of_shapeOf hlw
    · exact mt eq_SW_of_shapeOf hsw

end Sys2Proof.Machine
end

section
/-! PROOFS. The round trip of the encoder and the decoder (30_encoding.md R47 to R52): what `decode` answers is characterised by the
rows of the predicate table, the encoder writes a word of its instruction's row, and each layout is made up of the fields a decode
reads. -/

namespace Sys2Proof.Machine

/-! ### What the decoder answers, by the rows of the table (30_encoding.md R58, 40_decode.md R70, R75) -/

/-- No two instructions deliver the same result: those of different rows differ in the mnemonic, those of one row in an operand. -/
theorem decodedOf_injective : Function.Injective decodedOf := by
  intro i j h
  cases i <;> cases j <;> cases h <;> rfl

theorem predicate_of_decode_ok {w : Word} {i : Instr} (h : decode w = .ok i) : predicate i.mnemonic w = true := by
  have hfits := decode_fits w
  rw [h] at hfits
  exact hfits.1

theorem decodedOf_of_decode_ok {w : Word} {i : Instr} (h : decode w = .ok i) :
    decodedOf i = assemble i.mnemonic (slice w) := by
  have hfits := decode_fits w
  rw [h] at hfits
  exact hfits.2

/-- The decoder answers the instruction whose row holds of the word and whose operands are the word's fields. -/
theorem decode_eq_ok {w : Word} {i : Instr} (hrow : predicate i.mnemonic w = true)
    (hval : decodedOf i = assemble i.mnemonic (slice w)) : decode w = .ok i := by
  have hres : resultOf (decode w) = .ok (decodedOf i) := by
    rw [resultOf_decode, decodeResult_of_predicate hrow, hval]
  cases hd : decode w with
  | ok j =>
    rw [hd] at hres
    rw [decodedOf_injective (Result.ok.inj hres)]
  | invalidInstruction v =>
    rw [hd] at hres
    cases hres

/-- The decoder rejects a word that no row selects. -/
theorem decode_eq_invalid_of_no_row {w : Word} (h : ∀ mn, predicate mn w = false) : decode w = .invalidInstruction w := by
  cases hd : decode w with
  | ok i => exact absurd (predicate_of_decode_ok hd) (by simp [h])
  | invalidInstruction v => rw [decode_invalid_word hd]

/-! ### The encoder's words -/

/-- The word of a well-formed instruction is selected by the instruction's row (R58). -/
theorem predicate_encode {i : Instr} (h : i.WellFormed) : predicate i.mnemonic (encode i) = true := by
  cases i with
  | addi d s m => exact Laws.EncodesRow.addi d s m h
  | slli d s m => exact Laws.EncodesRow.slli d s m h
  | slti d s m => exact Laws.EncodesRow.slti d s m h
  | sltiu d s m => exact Laws.EncodesRow.sltiu d s m h
  | xori d s m => exact Laws.EncodesRow.xori d s m h
  | srli d s m => exact Laws.EncodesRow.srli d s m h
  | srai d s m => exact Laws.EncodesRow.srai d s m h
  | ori d s m => exact Laws.EncodesRow.ori d s m h
  | andi d s m => exact Laws.EncodesRow.andi d s m h
  | lw d b o => exact Laws.EncodesRow.lw d b o h
  | sw s b o => exact Laws.EncodesRow.sw s b o h
  | add d s t => exact Laws.EncodesRow.add d s t h
  | sub d s t => exact Laws.EncodesRow.sub d s t h
  | mul d s t => exact Laws.EncodesRow.mul d s t h
  | sll d s t => exact Laws.EncodesRow.sll d s t h
  | slt d s t => exact Laws.EncodesRow.slt d s t h
  | mulhsu d s t => exact Laws.EncodesRow.mulhsu d s t h
  | sltu d s t => exact Laws.EncodesRow.sltu d s t h
  | mulhu d s t => exact Laws.EncodesRow.mulhu d s t h
  | xor d s t => exact Laws.EncodesRow.xor d s t h
  | srl d s t => exact Laws.EncodesRow.srl d s t h
  | sra d s t => exact Laws.EncodesRow.sra d s t h
  | mulh d s t => exact Laws.EncodesRow.mulh d s t h
  | or d s t => exact Laws.EncodesRow.or d s t h
  | and d s t => exact Laws.EncodesRow.and d s t h
  | nop => exact Laws.EncodesRow.nop h

/-- The slicer reads every operand back from the encoder's word, well-formed or not. -/
theorem decodedOf_eq_assemble_encode (i : Instr) : decodedOf i = assemble i.mnemonic (slice (encode i)) := by
  cases i <;>
    simp [decodedOf, assemble, shapeOf, Instr.mnemonic, slice, encode, sFormat, iFormat_eq_rFormat, high_append_low]

theorem eq_LW_of_opcode {mn : Mnemonic} (h : (predicateRow mn).opcode = 0b0000011#7) : mn = .LW := by
  cases mn <;> simp_all [predicateRow]

theorem eq_SW_of_opcode {mn : Mnemonic} (h : (predicateRow mn).opcode = 0b0100011#7) : mn = .SW := by
  cases mn <;> simp_all [predicateRow]

/-- Whatever row selects the encoder's word, the instruction is well-formed: the word of an ill-formed LW or SW has an opcode that
no other row asks for, and fails the condition on rs1 or on bits [31:30]. -/
theorem wellFormed_of_predicate_encode {i : Instr} {mn : Mnemonic} (h : predicate mn (encode i) = true) : i.WellFormed := by
  have hop : (slice (encode i)).opcode = (predicateRow mn).opcode := ((rowHolds_iff _ _).mp h).1
  cases i with
  | lw dst base offset =>
    obtain rfl : mn = .LW := eq_LW_of_opcode (by simp [← hop, slice, encode, iFormat_eq_rFormat])
    have hbase := rs1Field_of_predicate_LW h
    simp only [encode, iFormat_eq_rFormat, rs1Field_rFormat] at hbase
    simp [Instr.WellFormed, Instr.wellFormed, hbase]
  | sw src base offset =>
    obtain rfl : mn = .SW := eq_SW_of_opcode (by simp [← hop, slice, encode, sFormat])
    obtain ⟨hbase, htop⟩ := fields_of_predicate_SW h
    simp only [encode, sFormat, rs1Field_rFormat, funct7Field_rFormat] at hbase htop
    simp [Instr.WellFormed, Instr.wellFormed, hbase, (top00_iff offset).mp htop]
  | _ => rfl

/-- Settles O18: a well-formed instruction's word is in its row and carries its operands; an ill-formed one's is in no row. -/
theorem decodeEncode : Obligations.DecodeEncode := by
  unfold Obligations.DecodeEncode
  refine fun i => ⟨fun hwf => ?_, fun hwf => ?_⟩
  · exact decode_eq_ok (predicate_encode hwf) (decodedOf_eq_assemble_encode i)
  · refine decode_eq_invalid_of_no_row fun mn => ?_
    exact Bool.eq_false_of_not_eq_true (mt wellFormed_of_predicate_encode hwf)

/-! ### Every word as the layout of the fields a decode reads from it -/

section Layouts

variable {w : Word} {op : BitVec 7} {f3 : BitVec 3} {f7 : BitVec 7} (hop : opcodeField w = op) (h3 : funct3Field w = f3)
include hop h3

theorem rFormat_of_fields (h7 : funct7Field w = f7) : rFormat f7 (rs2Field w) (rs1Field w) f3 (rdField w) op = w := by
  rw [← hop, ← h3, ← h7, rFormat_slices]

theorem iFormat_of_fields : iFormat (immIField w) (rs1Field w) f3 (rdField w) op = w := by
  rw [immIField_eq]
  exact rFormat_of_fields hop h3 rfl

theorem sFormat_of_fields : sFormat (storeOffsetField w) (rs2Field w) (rs1Field w) f3 op = w := by
  have hhi : (storeOffsetField w).extractLsb' 5 7 = funct7Field w :=
    (extract_above _ _ (le_refl 5)).trans BitVec.extractLsb'_eq_self
  have hlo : (storeOffsetField w).extractLsb' 0 5 = rdField w := extract_low _ _
  rw [sFormat, hhi, hlo]
  exact rFormat_of_fields hop h3 rfl

end Layouts

/-- Encoding a decoded instruction other than NOP gives the word: the row fixes the opcode, funct3 and funct7 the encoder writes, and
the operands are the other fields. -/
theorem encode_of_decode_ok {w : Word} {i : Instr} (h : decode w = .ok i) (hnop : i ≠ .nop) : encode i = w := by
  have hval := decodedOf_of_decode_ok h
  obtain ⟨hop, h3, h7, -⟩ := (rowHolds_iff _ _).mp (predicate_of_decode_ok h)
  cases i with
  | addi | slti | sltiu | xori | ori | andi | lw =>
    cases hval
    exact iFormat_of_fields hop (eq_of_beq h3)
  | sw =>
    cases hval
    exact sFormat_of_fields hop (eq_of_beq h3)
  | nop => exact absurd rfl hnop
  | _ =>
    cases hval
    exact rFormat_of_fields hop (eq_of_beq h3) (eq_of_beq h7)

/-- Settles O19: the word is the layout of its fields, and for NOP the row fixes bits [6:0]. -/
theorem encodeDecode : Obligations.EncodeDecode := by
  unfold Obligations.EncodeDecode
  intro w i h
  have hrow := predicate_of_decode_ok h
  refine ⟨?_, hrow, encode_of_decode_ok h, ?_⟩
  · by_cases hnop : i = .nop
    · exact hnop ▸ rfl
    · rw [← encode_of_decode_ok h hnop] at hrow
      exact wellFormed_of_predicate_encode hrow
  · rintro rfl
    have hop : opcodeField w = 0b1111111#7 := ((rowHolds_iff _ _).mp hrow).1
    exact (by decide : (encode .nop).extractLsb' 0 7 = 0b1111111#7).trans hop.symm

end Sys2Proof.Machine
end

section
/-! PROOFS. The fields as numbers (30_encoding.md R35 to R44, R53, R56): each one is a quotient and remainder of the word's number,
and the field ports and the immediates of the results carry it unchanged. -/

namespace Sys2Proof.Machine

/-! ### Each field as arithmetic on the word's number (R35 to R44) -/

/-- A bit range as quotient and remainder by powers of two (R8). -/
theorem extract_toNat {n : Nat} (x : BitVec n) (start len : Nat) :
    (x.extractLsb' start len).toNat = x.toNat / 2 ^ start % 2 ^ len := by
  rw [BitVec.extractLsb'_toNat, Nat.shiftRight_eq_div_pow]

/-- A bit range that ends at bit 31 needs no remainder. -/
theorem extract_top_toNat (w : Word) (start len : Nat) (h : start + len = 32) :
    (w.extractLsb' start len).toNat = w.toNat / 2 ^ start := by
  rw [extract_toNat, Nat.mod_eq_of_lt]
  rw [Nat.div_lt_iff_lt_mul (Nat.two_pow_pos start), ← Nat.pow_add, Nat.add_comm, h]
  exact w.isLt

section Fields

variable (w : Word)

theorem opcodeField_toNat : (opcodeField w).toNat = w.toNat % 128 := by
  simp [opcodeField]

theorem rdField_toNat : (rdField w).toNat = w.toNat / 128 % 32 := extract_toNat w 7 5

theorem funct3Field_toNat : (funct3Field w).toNat = w.toNat / 4096 % 8 := extract_toNat w 12 3

theorem rs1Field_toNat : (rs1Field w).toNat = w.toNat / 32768 % 32 := extract_toNat w 15 5

theorem rs2Field_toNat : (rs2Field w).toNat = w.toNat / 1048576 % 32 := extract_toNat w 20 5

theorem funct7Field_toNat : (funct7Field w).toNat = w.toNat / 33554432 := extract_top_toNat w 25 7 rfl

theorem immIField_toNat : (immIField w).toNat = w.toNat / 1048576 := extract_top_toNat w 20 12 rfl

/-- The six fields, each at its weight, add up to the word's number. -/
theorem word_toNat : w.toNat = (opcodeField w).toNat + 128 * (rdField w).toNat + 4096 * (funct3Field w).toNat +
    32768 * (rs1Field w).toNat + 1048576 * (rs2Field w).toNat + 33554432 * (funct7Field w).toNat := by
  conv_lhs => rw [← rFormat_slices w]
  simp only [rFormat, append_toNat]
  omega

end Fields

/-- Settles O5: the number of each bit range. -/
theorem slicerFields : Obligations.SlicerFields := by
  unfold Obligations.SlicerFields
  exact fun w => ⟨opcodeField_toNat w, rdField_toNat w, funct3Field_toNat w, rs1Field_toNat w, rs2Field_toNat w,
    funct7Field_toNat w, immIField_toNat w, funct7Field_toNat w, rdField_toNat w, BitVec.toNat_append _ _⟩

/-- Settles O6: shamt, imm_s_hi and imm_s_lo are bit ranges of other fields, and imm_i and store_offset are
concatenations of two of the six. -/
theorem fieldIdentities : Obligations.FieldIdentities := by
  unfold Obligations.FieldIdentities
  intro w
  have himm : (immIField w).toNat = (funct7Field w).toNat * 32 + (rs2Field w).toNat := by
    rw [immIField_eq]
    exact append_toNat _ _
  have hoff : (storeOffsetField w).toNat = (funct7Field w).toNat * 32 + (rdField w).toNat :=
    append_toNat (immSHiField w) (immSLoField w)
  exact ⟨rfl, rfl, rfl, himm, hoff, Nat.le_of_lt_succ (immIField w).isLt, Nat.le_of_lt_succ (storeOffsetField w).isLt,
    word_toNat w⟩

/-- Settles O7: after a step the ports are a function of the word, and the field ports are the slices. -/
theorem fieldPortsAreRawSlices : Obligations.FieldPortsAreRawSlices := by
  unfold Obligations.FieldPortsAreRawSlices
  intro s t ht
  rw [eq_showing_of_step ht, showing_ports]
  exact ⟨opcodeField_toNat _, rdField_toNat _, funct3Field_toNat _, rs1Field_toNat _, rs2Field_toNat _, funct7Field_toNat _,
    immIField_toNat _, storeOffsetField_toNat _⟩

/-! ### The immediates of the results (R53) -/

/-- An Immediate-arith or Load result is assembled with the raw imm_i (R70). -/
theorem imm_of_assemble {mn m : Mnemonic} {f : Fields} {d b : UInt5} {o : UInt12}
    (h : assemble m f = .immArith mn d b o ∨ assemble m f = .load mn d b o) : o = f.immI := by
  unfold assemble at h
  split at h <;> simp_all

/-- With w[31] set the raw imm_i is in the upper half of its range. -/
theorem le_immIField_of_getLsbD_31 {w : Word} (h : w.getLsbD 31 = true) : 2048 ≤ (immIField w).toNat := by
  have hw : 2147483648 ≤ w.toNat := BitVec.le_toNat_of_msb_true ((BitVec.msb_eq_getLsbD_last w).trans h)
  rw [immIField_toNat]
  omega

/-- Settles O43: what is delivered was assembled with the word's imm_i, as it stands. -/
theorem immediatesAreNotSignExtended : Obligations.ImmediatesAreNotSignExtended := by
  unfold Obligations.ImmediatesAreNotSignExtended
  have hexample : decodeResult 0xFFF00013 = .ok (.immArith .ADDI 0 0 4095) := by decide
  refine ⟨fun s t ht mn d b o hr => ?_, fun s => ⟨_, step_supplyWords_eq_showing s _ [], hexample⟩⟩
  rw [result_of_step ht] at hr
  have ho : o = immIField (nextWord s) := by
    rcases hr with hr | hr
    · obtain ⟨m, -, hasm⟩ := exists_predicate_of_decodeResult hr
      exact imm_of_assemble (.inl hasm)
    · obtain ⟨m, -, hasm⟩ := exists_predicate_of_decodeResult hr
      exact imm_of_assemble (.inr hasm)
  rw [ho]
  exact ⟨immIField_toNat _, Nat.le_of_lt_succ (immIField _).isLt, le_immIField_of_getLsbD_31⟩

end Sys2Proof.Machine
end

section
/-! PROOFS. The predicates of the table and what they read of a word (30_encoding.md R45, R58 to R61): they are masks and matches, bits
no condition names do not matter, and no order of evaluation does. -/

namespace Sys2Proof.Machine

/-! ### The mask and match of a row (R59) -/

/-- The bits of a field that an entry reads: all, or none for "—". -/
def entryMask {n : Nat} : Option (BitVec n) → BitVec n
  | none => 0
  | some _ => BitVec.allOnes n

theorem entryHolds_iff_and {n : Nat} (e : Option (BitVec n)) (v : BitVec n) :
    entryHolds e v = true ↔ v &&& entryMask e = e.getD 0 := by
  cases e <;> simp [entryHolds, entryMask]

/-- The bits of funct7 that a row reads: its entry's, and bits [6:5] for the condition on bits [31:30] of the word (R45). -/
def PredicateRow.funct7Mask (r : PredicateRow) : BitVec 7 :=
  if r.top00 then 0b1100000 else entryMask r.funct7

/-- The mask of a row, in the layout of the fields it reads. -/
def PredicateRow.mask (r : PredicateRow) : Word :=
  rFormat r.funct7Mask 0 (if r.rs1Zero then 0b11111#5 else 0) (entryMask r.funct3) 0 0b1111111

/-- The match of a row, in the same layout. -/
def PredicateRow.pattern (r : PredicateRow) : Word :=
  rFormat (r.funct7.getD 0) 0 0 (r.funct3.getD 0) 0 r.opcode

theorem maskOf_eq (mn : Mnemonic) : maskOf mn = (predicateRow mn).mask := by
  cases mn <;> rfl

theorem matchOf_eq (mn : Mnemonic) : matchOf mn = (predicateRow mn).pattern := by
  cases mn <;> rfl

/-- A layout is masked field by field. -/
theorem rFormat_and (f7 m7 : BitVec 7) (r2 m2 r1 m1 : UInt5) (f3 m3 : BitVec 3) (rd md : UInt5) (op mo : BitVec 7) :
    rFormat f7 r2 r1 f3 rd op &&& rFormat m7 m2 m1 m3 md mo =
      rFormat (f7 &&& m7) (r2 &&& m2) (r1 &&& m1) (f3 &&& m3) (rd &&& md) (op &&& mo) := by
  exact BitVec.and_append.trans <| congrArg (· ++ _) <| BitVec.and_append.trans <| congrArg (· ++ _) <|
    BitVec.and_append.trans <| congrArg (· ++ _) <| BitVec.and_append.trans <| congrArg (· ++ _) BitVec.and_append

/-- A word masked in the layout of the fields has a value in that layout exactly when each masked field has its part. -/
theorem and_rFormat_eq_iff {w : Word} {m7 c7 : BitVec 7} {m2 c2 m1 c1 : UInt5} {m3 c3 : BitVec 3} {md cd : UInt5}
    {mo co : BitVec 7} :
    w &&& rFormat m7 m2 m1 m3 md mo = rFormat c7 c2 c1 c3 cd co ↔
      funct7Field w &&& m7 = c7 ∧ rs2Field w &&& m2 = c2 ∧ rs1Field w &&& m1 = c1 ∧ funct3Field w &&& m3 = c3 ∧
        rdField w &&& md = cd ∧ opcodeField w &&& mo = co := by
  conv_lhs => rw [← rFormat_slices w, rFormat_and, eq_rFormat_iff]
  simp only [funct7Field_rFormat, rs2Field_rFormat, rs1Field_rFormat, funct3Field_rFormat, rdField_rFormat,
    opcodeField_rFormat]

theorem and_top_eq_zero_iff : ∀ v : BitVec 7, v &&& 0b1100000 = 0 ↔ v.extractLsb' 5 2 = 0#2 := by
  decide

/-- The conditions on funct7: no row has both an entry and the condition on bits [31:30]. -/
theorem funct7_holds_iff_and {r : PredicateRow} (hr : r.top00 = true → r.funct7 = none) (v : BitVec 7) :
    entryHolds r.funct7 v = true ∧ (r.top00 = true → v.extractLsb' 5 2 = 0#2) ↔ v &&& r.funct7Mask = r.funct7.getD 0 := by
  cases htop : r.top00 with
  | false => simp [PredicateRow.funct7Mask, htop, entryHolds_iff_and]
  | true => simpa [PredicateRow.funct7Mask, htop, hr htop, entryHolds] using (and_top_eq_zero_iff v).symm

/-- The condition on rs1. -/
theorem rs1_holds_iff_and (zero : Bool) (v : UInt5) :
    (zero = true → v = 0#5) ↔ v &&& (if zero then 0b11111#5 else 0) = 0 := by
  cases zero with
  | false => simp
  | true =>
    have hand : v &&& 0b11111#5 = v := BitVec.and_allOnes
    simp [hand]

/-- A row holds of a word exactly when the masked word is the row's match. -/
theorem rowHolds_iff_and {r : PredicateRow} (hr : r.top00 = true → r.funct7 = none) (w : Word) :
    rowHolds r (slice w) = true ↔ w &&& r.mask = r.pattern := by
  have hf7 := funct7_holds_iff_and hr (funct7Field w)
  have hrs1 := rs1_holds_iff_and r.rs1Zero (rs1Field w)
  rw [PredicateRow.mask, PredicateRow.pattern, and_rFormat_eq_iff, rowHolds_iff, entryHolds_iff_and r.funct3]
  constructor
  · rintro ⟨hop, h3, h7, h1, htop⟩
    exact ⟨hf7.mp ⟨h7, htop⟩, BitVec.and_zero, hrs1.mp h1, h3, BitVec.and_zero, BitVec.and_allOnes.trans hop⟩
  · rintro ⟨h7, -, h1, h3, -, hop⟩
    obtain ⟨h7, htop⟩ := hf7.mpr h7
    exact ⟨BitVec.and_allOnes.symm.trans hop, h3, h7, hrs1.mpr h1, htop⟩

theorem funct7_eq_none_of_top00 (mn : Mnemonic) : (predicateRow mn).top00 = true → (predicateRow mn).funct7 = none := by
  cases mn <;> decide

/-- Settles O8: the constants of R59 are the mask and match of the row of R58. -/
theorem predicateIsMaskMatch : Obligations.PredicateIsMaskMatch := by
  unfold Obligations.PredicateIsMaskMatch
  intro mn w
  rw [maskOf_eq, matchOf_eq]
  exact rowHolds_iff_and (funct7_eq_none_of_top00 mn) w

/-! ### What a row reads of the fields (R45, R60) -/

/-- Fields that agree on what a row reads satisfy it together. -/
theorem rowHolds_congr {r : PredicateRow} {f g : Fields} (hop : f.opcode = g.opcode)
    (h3 : r.funct3 = none ∨ f.funct3 = g.funct3) (h7 : r.funct7 = none ∨ f.funct7 = g.funct7)
    (h1 : r.rs1Zero = false ∨ (f.rs1 = 0#5 ↔ g.rs1 = 0#5))
    (htop : r.top00 = false ∨ f.funct7.extractLsb' 5 2 = g.funct7.extractLsb' 5 2) : rowHolds r f = rowHolds r g := by
  have h3' : entryHolds r.funct3 f.funct3 = entryHolds r.funct3 g.funct3 := by
    rcases h3 with h | h <;> simp [h, entryHolds]
  have h7' : entryHolds r.funct7 f.funct7 = entryHolds r.funct7 g.funct7 := by
    rcases h7 with h | h <;> simp [h, entryHolds]
  have h1' : (r.rs1Zero = true → f.rs1 = 0#5) ↔ (r.rs1Zero = true → g.rs1 = 0#5) := by
    rcases h1 with h | h <;> simp [h]
  have htop' : (r.top00 = true → f.funct7.extractLsb' 5 2 = 0#2) ↔ (r.top00 = true → g.funct7.extractLsb' 5 2 = 0#2) := by
    rcases htop with h | h <;> simp [h]
  rw [Bool.eq_iff_iff, rowHolds_iff, rowHolds_iff, hop, h3', h7', h1', htop']

/-- A bit range of a bit range. -/
theorem extract_extract {n : Nat} (x : BitVec n) (start len start' len' : Nat) (h : start' + len' ≤ len) :
    (x.extractLsb' start len).extractLsb' start' len' = x.extractLsb' (start + start') len' := by
  ext i hi
  have hlt : start' + i < len := by omega
  simp [hlt, Nat.add_assoc]

/-- Bits [31:30] are funct7[6:5] (R45). -/
theorem extract_30_2_eq (w : Word) : w.extractLsb' 30 2 = (funct7Field w).extractLsb' 5 2 :=
  (extract_extract w 25 7 5 2 (le_refl 7)).symm

/-- Two words that agree on bits [19:12] agree on funct3 and rs1. -/
theorem fields_eq_of_extract_12_8 {v w : Word} (h : v.extractLsb' 12 8 = w.extractLsb' 12 8) :
    funct3Field v = funct3Field w ∧ rs1Field v = rs1Field w := by
  have h3 := congrArg (BitVec.extractLsb' 0 3) h
  have h1 := congrArg (BitVec.extractLsb' 3 5) h
  rw [extract_extract v 12 8 0 3 (by decide), extract_extract w 12 8 0 3 (by decide)] at h3
  rw [extract_extract v 12 8 3 5 (by decide), extract_extract w 12 8 3 5 (by decide)] at h1
  exact ⟨h3, h1⟩

/-- Settles O9: class by class, the entries of the row that read other bits are "—". -/
theorem unreadBitsAreIgnored : Obligations.UnreadBitsAreIgnored := by
  unfold Obligations.UnreadBitsAreIgnored
  intro v w hop
  have hlong : ∀ mn ∈ [Mnemonic.ADDI, .SLTI, .SLTIU, .XORI, .ORI, .ANDI],
      (predicateRow mn).funct7 = none ∧ (predicateRow mn).rs1Zero = false ∧ (predicateRow mn).top00 = false := by decide
  have hshort : ∀ mn ∈ [Mnemonic.SLLI, .SRLI, .SRAI, .ADD, .SUB, .MUL, .SLL, .SLT, .MULHSU] ++
      [Mnemonic.SLTU, .MULHU, .XOR, .SRL, .SRA, .MULH, .OR, .AND],
      (predicateRow mn).rs1Zero = false ∧ (predicateRow mn).top00 = false := by decide
  refine ⟨rowHolds_congr hop (.inl rfl) (.inl rfl) (.inl rfl) (.inl rfl), fun h3 => ⟨fun mn hmn => ?_, fun h7 => ?_⟩,
    fun h12 => ?_⟩
  · obtain ⟨hf7, hrs1, htop⟩ := hlong mn hmn
    exact rowHolds_congr hop (.inr h3) (.inl hf7) (.inl hrs1) (.inl htop)
  · refine List.forall_mem_append.mp fun mn hmn => ?_
    obtain ⟨hrs1, htop⟩ := hshort mn hmn
    exact rowHolds_congr hop (.inr h3) (.inr h7) (.inl hrs1) (.inl htop)
  · obtain ⟨h3, h1⟩ := fields_eq_of_extract_12_8 h12
    have hrs1 : (slice v).rs1 = 0#5 ↔ (slice w).rs1 = 0#5 := by simp only [slice, h1]
    refine ⟨rowHolds_congr hop (.inr h3) (.inl rfl) (.inr hrs1) (.inl rfl), fun h30 => ?_⟩
    rw [extract_30_2_eq, extract_30_2_eq] at h30
    exact rowHolds_congr hop (.inr h3) (.inl rfl) (.inr hrs1) (.inr h30)

/-- Settles O51: the two words agree on all that any row reads. -/
theorem classifierReadsItsInputsOnly : Obligations.ClassifierReadsItsInputsOnly := by
  unfold Obligations.ClassifierReadsItsInputsOnly
  refine ⟨fun v w hop h3 h7 h1 => ?_, extract_30_2_eq⟩
  have hpred : ∀ mn, predicate mn v = predicate mn w := fun mn =>
    rowHolds_congr hop (.inr h3) (.inr h7) (.inr h1) (.inr (congrArg _ h7))
  exact ⟨hpred, by simp only [classify, classifyIn, hpred]⟩

/-! ### The predicates exclude each other, in every order (R61, R73) -/

/-- Settles O10: two rows that hold of one word's fields do not conflict, so they are one row. -/
theorem predicatesExclusive : Obligations.PredicatesExclusive := by
  unfold Obligations.PredicatesExclusive
  exact fun w m n hm hn => eq_of_rowHolds (f := slice w) hm hn

/-- First match in an order that tries every predicate finds the one that holds, wherever it stands. -/
theorem classifyIn_eq_some_iff {order : List Mnemonic} (hall : ∀ mn, mn ∈ order) (w : Word) (mn : Mnemonic) :
    classifyIn order w = some mn ↔ predicate mn w = true := by
  constructor
  · exact fun h => List.find?_some (p := (predicate · w)) h
  · intro h
    obtain ⟨m, hm⟩ : ∃ m, classifyIn order w = some m :=
      Option.isSome_iff_exists.mp (List.find?_isSome.mpr ⟨mn, hall mn, h⟩)
    rw [hm, eq_of_rowHolds (List.find?_some (p := (predicate · w)) hm) h]

/-- Settles O14: both orders try every predicate. -/
theorem priorityOrderUnobservable : Obligations.PriorityOrderUnobservable := by
  unfold Obligations.PriorityOrderUnobservable
  intro order w hperm
  refine Option.ext fun mn => ?_
  rw [classify, classifyIn_eq_some_iff (fun m => hperm.mem_iff.mpr (mem_priority m)), classifyIn_eq_some_iff mem_priority]

end Sys2Proof.Machine
end

section
/-! PROOFS. The Invalid words (30_encoding.md R34, R62, R64): where each group of the decoder ends in Invalid. -/

namespace Sys2Proof.Machine

variable {f : Fields} {w : Word}

theorem decodeOpImm_eq_invalid_iff :
    decodeOpImm f w = .invalidInstruction w ↔
      (f.funct3 = 0b001#3 ∧ f.funct7 ≠ 0b0000000#7) ∨
      (f.funct3 = 0b101#3 ∧ f.funct7 ≠ 0b0000000#7 ∧ f.funct7 ≠ 0b0100000#7) := by
  unfold decodeOpImm
  by_cases hbase : f.funct7 = 0b0000000#7 <;> by_cases halt : f.funct7 = 0b0100000#7 <;>
    rcases funct3_cases f.funct3 with h | h | h | h | h | h | h | h <;> simp [h, hbase, halt]

theorem decodeLoad_eq_invalid_iff :
    decodeLoad f w = .invalidInstruction w ↔ f.funct3 ≠ 0b010#3 ∨ f.rs1 ≠ 0#5 := by
  unfold decodeLoad
  split <;> simp_all [or_iff_not_imp_left]

theorem decodeStore_eq_invalid_iff :
    decodeStore f w = .invalidInstruction w ↔
      f.funct3 ≠ 0b010#3 ∨ f.rs1 ≠ 0#5 ∨ f.funct7.extractLsb' 5 2 ≠ 0b00#2 := by
  unfold decodeStore
  split <;> simp_all [or_iff_not_imp_left]

theorem decodeOpAlt_eq_invalid_iff :
    decodeOpAlt f w = .invalidInstruction w ↔ f.funct3 ≠ 0b000#3 ∧ f.funct3 ≠ 0b101#3 := by
  unfold decodeOpAlt
  (repeat' split) <;> simp_all

theorem decodeOpMul_eq_invalid_iff :
    decodeOpMul f w = .invalidInstruction w ↔
      f.funct3 = 0b100#3 ∨ f.funct3 = 0b101#3 ∨ f.funct3 = 0b110#3 ∨ f.funct3 = 0b111#3 := by
  unfold decodeOpMul
  rcases funct3_cases f.funct3 with h | h | h | h | h | h | h | h <;> simp [h]

theorem decodeOpReg_eq_invalid_iff :
    decodeOpReg f w = .invalidInstruction w ↔
      (f.funct7 ≠ 0b0000000#7 ∧ f.funct7 ≠ 0b0100000#7 ∧ f.funct7 ≠ 0b0000001#7) ∨
      (f.funct7 = 0b0100000#7 ∧ f.funct3 ≠ 0b000#3 ∧ f.funct3 ≠ 0b101#3) ∨
      (f.funct7 = 0b0000001#7 ∧
        (f.funct3 = 0b100#3 ∨ f.funct3 = 0b101#3 ∨ f.funct3 = 0b110#3 ∨ f.funct3 = 0b111#3)) := by
  unfold decodeOpReg
  split
  · simp_all
  split
  · simp_all [decodeOpAlt_eq_invalid_iff]
  split
  · simp_all [decodeOpMul_eq_invalid_iff]
  · simp_all

/-- A decode ends in Invalid outside the five opcodes, and inside one where its group does (R57, R62). -/
theorem decode_eq_invalid_iff (w : Word) :
    decode w = .invalidInstruction w ↔
      ¬ ((slice w).opcode = 0b0010011#7 ∨ (slice w).opcode = 0b0000011#7 ∨ (slice w).opcode = 0b0100011#7 ∨
          (slice w).opcode = 0b0110011#7 ∨ (slice w).opcode = 0b1111111#7) ∨
      ((slice w).opcode = 0b0010011#7 ∧ decodeOpImm (slice w) w = .invalidInstruction w) ∨
      ((slice w).opcode = 0b0000011#7 ∧ decodeLoad (slice w) w = .invalidInstruction w) ∨
      ((slice w).opcode = 0b0100011#7 ∧ decodeStore (slice w) w = .invalidInstruction w) ∨
      ((slice w).opcode = 0b0110011#7 ∧ decodeOpReg (slice w) w = .invalidInstruction w) := by
  unfold decode
  simp only
  split
  · simp_all
  split
  · simp_all
  split
  · simp_all
  split
  · simp_all
  split <;> simp_all

theorem decodeResult_eq_invalid_iff (w : Word) : decodeResult w = .invalid w ↔ decode w = .invalidInstruction w := by
  rw [← resultOf_decode]
  cases decode w <;> simp [resultOf]

/-- Settles O11: the cases are the groups of the decoder, each with the condition under which it ends in Invalid. -/
theorem invalidSpace : Obligations.InvalidSpace := by
  unfold Obligations.InvalidSpace
  intro s t ht
  simp only
  rw [result_of_step ht, decodeResult_eq_invalid_iff, decode_eq_invalid_iff, decodeOpImm_eq_invalid_iff,
    decodeLoad_eq_invalid_iff, decodeStore_eq_invalid_iff, decodeOpReg_eq_invalid_iff, extract_30_2_eq, and_or_left, or_assoc]
  exact Iff.rfl

/-- Every row asks for an opcode whose two low bits are 1 (R34, R57). -/
theorem opcode_mod_four (mn : Mnemonic) : (predicateRow mn).opcode.toNat % 4 = 3 := by
  cases mn <;> rfl

/-- Settles O12: a row that holds of a word fixes the word's two low bits. -/
theorem lowBitsNotAllOnesIsInvalid : Obligations.LowBitsNotAllOnesIsInvalid := by
  unfold Obligations.LowBitsNotAllOnesIsInvalid
  intro s hlow
  refine ⟨_, step_eq_showing s, ?_⟩
  rw [showing_result, decodeResult_eq_invalid_iff]
  refine decode_eq_invalid_of_no_row fun mn => Bool.eq_false_of_not_eq_true fun hrow => hlow ?_
  have hop : opcodeField (nextWord s) = (predicateRow mn).opcode := ((rowHolds_iff _ _).mp hrow).1
  have hnum := opcodeField_toNat (nextWord s)
  rw [hop] at hnum
  have hmod := opcode_mod_four mn
  omega

end Sys2Proof.Machine
end

section
/-! PROOFS. How many words each row of the predicate table selects (30_encoding.md R65): the words of a row are the layouts of a
product of sets of fields, and the rows are disjoint. -/

namespace Sys2Proof.Machine

/-! ### The values of a field that an entry admits -/

theorem card_bitVec (n : Nat) : Nat.card (BitVec n) = 2 ^ n := by
  rw [Nat.card_eq_fintype_card, ← FinEnum.card_eq_fintypeCard, FinEnum.card_bitVec]

/-- How many values of a field an entry admits: all of them for "—". -/
def entrySize {n : Nat} : Option (BitVec n) → Nat
  | none => 2 ^ n
  | some _ => 1

theorem ncard_entryHolds {n : Nat} (e : Option (BitVec n)) : {v : BitVec n | entryHolds e v = true}.ncard = entrySize e := by
  cases e with
  | none => simpa [entryHolds, entrySize] using card_bitVec n
  | some e => simp [entryHolds, entrySize]

/-- How many values of funct7 a row admits. -/
def PredicateRow.funct7Size (r : PredicateRow) : Nat := if r.top00 then 32 else entrySize r.funct7

/-- How many values of rs1 a row admits. -/
def PredicateRow.rs1Size (r : PredicateRow) : Nat := if r.rs1Zero then 1 else 32

theorem ncard_top00 : {v : BitVec 7 | v.extractLsb' 5 2 = 0#2}.ncard = 32 := by
  rw [Set.ncard_eq_toFinset_card']
  decide

theorem ncard_funct7 {r : PredicateRow} (hr : r.top00 = true → r.funct7 = none) :
    {v : BitVec 7 | entryHolds r.funct7 v = true ∧ (r.top00 = true → v.extractLsb' 5 2 = 0#2)}.ncard = r.funct7Size := by
  cases htop : r.top00 with
  | false => simp [PredicateRow.funct7Size, htop, ncard_entryHolds]
  | true => simp [PredicateRow.funct7Size, htop, hr htop, entryHolds, ncard_top00]

theorem ncard_rs1 (r : PredicateRow) : {v : UInt5 | r.rs1Zero = true → v = 0#5}.ncard = r.rs1Size := by
  cases hrs1 : r.rs1Zero with
  | false => simpa [PredicateRow.rs1Size, hrs1] using card_bitVec 5
  | true => simp [PredicateRow.rs1Size, hrs1]

/-! ### The words of a row -/

/-- The word of six fields. -/
def wordOfFields : BitVec 7 × UInt5 × UInt5 × BitVec 3 × UInt5 × BitVec 7 → Word
  | (f7, r2, r1, f3, rd, op) => rFormat f7 r2 r1 f3 rd op

theorem wordOfFields_injective : Function.Injective wordOfFields := by
  rintro ⟨f7, r2, r1, f3, rd, op⟩ ⟨f7', r2', r1', f3', rd', op'⟩ h
  simpa [wordOfFields] using eq_rFormat_iff.mp h

theorem wordOfFields_surjective : Function.Surjective wordOfFields :=
  fun w => ⟨(funct7Field w, rs2Field w, rs1Field w, funct3Field w, rdField w, opcodeField w), rFormat_slices w⟩

/-- The fields a row admits: rs2 and rd are free. -/
def PredicateRow.fields (r : PredicateRow) : Set (BitVec 7 × UInt5 × UInt5 × BitVec 3 × UInt5 × BitVec 7) :=
  {v | entryHolds r.funct7 v = true ∧ (r.top00 = true → v.extractLsb' 5 2 = 0#2)} ×ˢ Set.univ ×ˢ
    {v | r.rs1Zero = true → v = 0#5} ×ˢ {v | entryHolds r.funct3 v = true} ×ˢ Set.univ ×ˢ {r.opcode}

theorem preimage_rowHolds (r : PredicateRow) : wordOfFields ⁻¹' {w | rowHolds r (slice w) = true} = r.fields := by
  ext ⟨f7, r2, r1, f3, rd, op⟩
  simp only [wordOfFields, slice, rowHolds_iff, PredicateRow.fields, Set.mem_preimage, Set.mem_ofPred_eq, Set.mem_prod,
    Set.mem_univ, Set.mem_singleton_iff, true_and, opcodeField_rFormat, funct3Field_rFormat, funct7Field_rFormat,
    rs1Field_rFormat]
  exact ⟨fun ⟨hop, h3, h7, h1, htop⟩ => ⟨⟨h7, htop⟩, h1, h3, hop⟩, fun ⟨⟨h7, htop⟩, h1, h3, hop⟩ => ⟨hop, h3, h7, h1, htop⟩⟩

/-- How many words a row selects: the free choices of rs2 and rd times those its conditions leave. -/
def PredicateRow.size (r : PredicateRow) : Nat := r.funct7Size * (32 * (r.rs1Size * (entrySize r.funct3 * 32)))

theorem ncard_rowHolds {r : PredicateRow} (hr : r.top00 = true → r.funct7 = none) :
    {w : Word | rowHolds r (slice w) = true}.ncard = r.size := by
  rw [← Set.image_preimage_eq {w : Word | rowHolds r (slice w) = true} wordOfFields_surjective, preimage_rowHolds,
    Set.ncard_image_of_injective _ wordOfFields_injective, PredicateRow.fields]
  simp only [Set.ncard_prod, Set.ncard_univ, Set.ncard_singleton, card_bitVec, ncard_funct7 hr, ncard_rs1, ncard_entryHolds]
  simp [PredicateRow.size]

theorem card_predicate (mn : Mnemonic) : Nat.card {w : Word // predicate mn w = true} = (predicateRow mn).size :=
  ncard_rowHolds (funct7_eq_none_of_top00 mn)

/-! ### The words of all rows together -/

/-- Different rows select different words, so the sizes add up. -/
theorem ncard_exists_predicate {l : List Mnemonic} (hl : l.Nodup) :
    {w : Word | ∃ mn ∈ l, predicate mn w = true}.ncard = (l.map fun mn => (predicateRow mn).size).sum := by
  induction l with
  | nil => simp
  | cons m l ih =>
    obtain ⟨hm, hl⟩ := List.nodup_cons.mp hl
    have hsplit : {w : Word | ∃ mn ∈ m :: l, predicate mn w = true} =
        {w | predicate m w = true} ∪ {w | ∃ mn ∈ l, predicate mn w = true} := by
      ext w
      simp
    have hdisj : Disjoint {w : Word | predicate m w = true} {w | ∃ mn ∈ l, predicate mn w = true} := by
      refine Set.disjoint_left.mpr ?_
      rintro w hw ⟨n, hn, hw'⟩
      exact hm (predicatesExclusive w m n hw hw' ▸ hn)
    rw [hsplit, Set.ncard_union_eq hdisj, ih hl, List.map_cons, List.sum_cons]
    congr 1
    exact card_predicate m

theorem decodeResult_ok_iff (w : Word) : (∃ d, decodeResult w = .ok d) ↔ ∃ mn ∈ priority, predicate mn w = true := by
  constructor
  · rintro ⟨d, hd⟩
    obtain ⟨mn, hmn, -⟩ := exists_predicate_of_decodeResult hd
    exact ⟨mn, mem_priority mn, hmn⟩
  · rintro ⟨mn, -, hmn⟩
    exact ⟨_, decodeResult_of_predicate hmn⟩

theorem card_decodeResult_ok : Nat.card {w : Word // ∃ d, decodeResult w = .ok d} = 59441152 := by
  have hset : {w : Word | ∃ d, decodeResult w = .ok d} = {w | ∃ mn ∈ priority, predicate mn w = true} :=
    Set.ext decodeResult_ok_iff
  have hcard := ncard_exists_predicate (l := priority) (by decide)
  rw [← hset] at hcard
  exact hcard.trans (by decide)

/-- The words that decode to no instruction are the rest of the 2^32. -/
theorem card_decodeResult_invalid : Nat.card {w : Word // decodeResult w = .invalid w} = 4235526144 := by
  have hset : {w : Word | decodeResult w = .invalid w} = {w | ∃ d, decodeResult w = .ok d}ᶜ := by
    ext w
    unfold decodeResult
    cases hc : classify w <;> simp [hc]
  have hsum := Set.ncard_add_ncard_compl {w : Word | ∃ d, decodeResult w = .ok d}
  rw [← hset, card_bitVec] at hsum
  have hok : {w : Word | ∃ d, decodeResult w = .ok d}.ncard = 59441152 := card_decodeResult_ok
  show {w : Word | decodeResult w = .invalid w}.ncard = _
  omega

/-- Settles O13: the sizes of the rows by their conditions, and the totals from their disjointness. -/
theorem classSizes : Obligations.ClassSizes := by
  unfold Obligations.ClassSizes
  refine ⟨fun mn hmn => ?_, fun mn hmn => ?_, card_predicate .LW, card_predicate .NOP, card_decodeResult_ok,
    card_decodeResult_invalid⟩
  · rw [card_predicate]
    revert mn
    decide
  · rw [card_predicate]
    revert hmn
    cases mn <;> decide

end Sys2Proof.Machine
end

section
/-! PROOFS. The decode result of a step (40_decode.md R70 to R75): it is the assembled instruction of the one row that holds of the
word, or Invalid where none does; and no run ends otherwise than in a next state. -/

namespace Sys2Proof.Machine

/-! ### What a step delivers (R70, R71, R74, R75) -/

/-- Settles O15: the step shows the next word, and what the block shows of a word is its decode. -/
theorem stepComputesDecode : Obligations.StepComputesDecode := by
  unfold Obligations.StepComputesDecode
  exact fun s => ⟨_, step_eq_showing s, showing_instr _ _, showing_result _ _⟩

/-- Settles O16: the row that holds names the mnemonic, and the assembler takes the fields of its shape. -/
theorem stepAssemblesOperands : Obligations.StepAssemblesOperands := by
  unfold Obligations.StepAssemblesOperands
  intro s mn hrow
  refine ⟨_, step_eq_showing s, (decodeResult_of_predicate hrow).trans (congrArg Result.ok ?_)⟩
  cases mn <;> rfl

theorem decodeResult_of_no_row {w : Word} (h : ∀ mn, predicate mn w = false) : decodeResult w = .invalid w := by
  simp only [decodeResult, classify_eq_none h]

/-- Everything the decode function can answer: the instruction of a row that holds, or Invalid where no row does. -/
theorem decodeResult_cases (w : Word) :
    (∃ mn, predicate mn w = true ∧ decodeResult w = .ok (assemble mn (slice w))) ∨
      (∀ mn, predicate mn w = false) ∧ decodeResult w = .invalid w := by
  by_cases hrow : ∃ mn, predicate mn w = true
  · obtain ⟨mn, hmn⟩ := hrow
    exact .inl ⟨mn, hmn, decodeResult_of_predicate hmn⟩
  · have hnone : ∀ mn, predicate mn w = false := by simpa using hrow
    exact .inr ⟨hnone, decodeResult_of_no_row hnone⟩

/-- Settles O17: the rows exclude each other, so the one that holds is the only one, and a step has one outcome. -/
theorem decodeTotalAllOrNothing : Obligations.DecodeTotalAllOrNothing := by
  unfold Obligations.DecodeTotalAllOrNothing
  intro s
  refine ⟨_, step_eq_showing s, ?_, fun u hu => eq_showing_of_step hu⟩
  obtain ⟨mn, hmn, hr⟩ | hnone := decodeResult_cases (nextWord s)
  · exact .inl ⟨mn, hmn, fun n hn => predicatesExclusive _ n mn hn hmn, hr⟩
  · exact .inr hnone

/-- Settles O23, by induction on the number of steps: every state has a next one. -/
theorem noRunEverStops : Obligations.NoRunEverStops := by
  unfold Obligations.NoRunEverStops
  intro n
  induction n with
  | zero => exact fun s => ⟨s, rfl⟩
  | succ n ih =>
    intro s
    obtain ⟨t, ht⟩ := ih ((present s).showing (nextWord s))
    exact ⟨t, (run_succ_of_step (step_eq_showing s) n).trans ht⟩

/-! ### The step as exec of the decoded instruction (R46, R71, R79) -/

/-- The slicer leaves `valid`, `mnem` and `shape` alone and drives every other port from the word. -/
theorem driveFields_ports (s : State) :
    (driveFields s).ports = drives s.ports.valid s.ports.mnem s.ports.shape s.instr := rfl

/-- Where the next word decodes to an instruction, the step runs that instruction's meaning. -/
theorem step_eq_exec {s : State} {i : Instr} (h : decode (nextWord s) = .ok i) :
    step s = exec i (driveFields (present s)) := by
  rw [step_eq_deliver, h, exec_eq_deliver, resultOf]

/-- Settles O2: the meaning runs after the word is presented and the field ports are driven. -/
theorem stepRunsDecodedInstruction : Obligations.StepRunsDecodedInstruction := by
  unfold Obligations.StepRunsDecodedInstruction
  intro s i hi
  refine ⟨driveFields (present s), step_eq_exec hi, present_instr s, present_result s, present_supply s, present_undriven s, ?_⟩
  rw [driveFields_ports, present_ports, present_instr]

end Sys2Proof.Machine
end

section
/-! PROOFS. The result and the ports (40_decode.md R76 to R81): the codes are one to one, a consumer's reading of the ports succeeds
exactly on the codes and operands of the result it yields, and on the ports of a word it yields the decode of that word. -/

namespace Sys2Proof.Machine

/-! ### The codes of mnemonics and shapes (R77, R78) -/

/-- Reading a mnemonic's code gives the mnemonic back. -/
@[simp] theorem mnemonicOfCode_mnemonicCode (mn : Mnemonic) : mnemonicOfCode (mnemonicCode mn) = some mn := by
  cases mn <;> rfl

theorem mnemonicCode_injective : Function.Injective mnemonicCode := fun m n h =>
  Option.some.inj ((mnemonicOfCode_mnemonicCode m).symm.trans ((congrArg mnemonicOfCode h).trans (mnemonicOfCode_mnemonicCode n)))

/-- A code is read as a mnemonic only if it is that mnemonic's. -/
theorem mnemonicOfCode_eq_some_iff {c : BitVec 5} {mn : Mnemonic} : mnemonicOfCode c = some mn ↔ c = mnemonicCode mn := by
  have hread : ∀ c : BitVec 5, ∀ m ∈ mnemonicOfCode c, c = mnemonicCode m := by decide
  exact ⟨hread c mn, fun h => h ▸ mnemonicOfCode_mnemonicCode mn⟩

theorem shapeCode_injective : Function.Injective shapeCode := by
  intro a b h
  cases a <;> cases b <;> simp_all [shapeCode]

theorem mnemonicCode_toNat_le (mn : Mnemonic) : (mnemonicCode mn).toNat ≤ 25 := by
  cases mn <;> decide

theorem shapeCode_toNat_le (sh : Shape) : (shapeCode sh).toNat ≤ 5 := by
  cases sh <;> decide

/-- Settles O27: a mnemonic is read back from its code, and the priority list is in the order of the codes. -/
theorem codesAreDistinct : Obligations.CodesAreDistinct := by
  unfold Obligations.CodesAreDistinct
  exact ⟨fun _ _ h => mnemonicCode_injective h, fun _ _ h => shapeCode_injective h, by decide⟩

/-! ### Reading a result off any ports (R79, R81) -/

/-- The ports that the shape of `d` names carry the operands of `d` (R79). -/
def Decoded.OperandsOn (p : OutPorts) : Decoded → Prop
  | .immShift _ dst src shamt => p.rd = dst ∧ p.rs1 = src ∧ p.rs2 = shamt
  | .immArith _ dst src imm => p.rd = dst ∧ p.rs1 = src ∧ p.immI = imm
  | .regReg _ dst src1 src2 => p.rd = dst ∧ p.rs1 = src1 ∧ p.rs2 = src2
  | .load _ dst base offset => p.rd = dst ∧ p.rs1 = base ∧ p.immI = offset
  | .store _ src base offset => p.rs2 = src ∧ p.rs1 = base ∧ p.storeOffset = offset
  | .noOperand _ => True

theorem readOk_eq_some_iff {mn : Mnemonic} {p : OutPorts} {d : Decoded} :
    readOk mn p = some d ↔ mn = d.mnemonic ∧ p.shape = shapeCode d.shape ∧ d.OperandsOn p := by
  constructor
  · intro h
    unfold readOk at h
    (repeat' split at h) <;> cases h <;> exact ⟨rfl, ‹_›, by simp [Decoded.OperandsOn]⟩
  · rintro ⟨rfl, hshape, hoperands⟩
    cases d <;> simp_all [readOk, Decoded.OperandsOn, Decoded.shape, Decoded.mnemonic, shapeCode]

theorem readPorts_eq_ok_iff {p : OutPorts} {w : Word} {d : Decoded} :
    readPorts p w = some (.ok d) ↔
      p.valid = 1 ∧ p.mnem = mnemonicCode d.mnemonic ∧ p.shape = shapeCode d.shape ∧ d.OperandsOn p := by
  unfold readPorts
  constructor
  · intro h
    split at h
    next hvalid =>
      split at h
      next mn hmn =>
        obtain ⟨d', hd, heq⟩ := Option.map_eq_some_iff.mp h
        cases heq
        obtain ⟨rfl, hshape, hoperands⟩ := readOk_eq_some_iff.mp hd
        exact ⟨hvalid, mnemonicOfCode_eq_some_iff.mp hmn, hshape, hoperands⟩
      next => cases h
    next => split at h <;> cases h
  · rintro ⟨hvalid, hmnem, hread⟩
    simp [hvalid, hmnem, readOk_eq_some_iff.mpr ⟨rfl, hread⟩]

theorem readPorts_eq_invalid_iff {p : OutPorts} {w : Word} :
    readPorts p w = some (.invalid w) ↔ p.valid = 0 ∧ p.mnem = 31 ∧ p.shape = 7 := by
  unfold readPorts
  obtain hvalid | hvalid := BitVec.eq_zero_or_eq_one p.valid
  · simp [hvalid]
  · cases mnemonicOfCode p.mnem <;> simp [hvalid]

/-! ### Reading the decode of a word off its ports (R81) -/

section PortsOf

variable (w : Word)

@[simp] theorem portsOf_valid : (portsOf w).valid = validOut (decodeResult w) := rfl

@[simp] theorem portsOf_mnem : (portsOf w).mnem = mnemOut (decodeResult w) := rfl

@[simp] theorem portsOf_shape : (portsOf w).shape = shapeOut (decodeResult w) := rfl

end PortsOf

/-- The field ports of a word carry the operands that are assembled from it. -/
theorem operandsOn_assemble (mn : Mnemonic) (w : Word) : (assemble mn (slice w)).OperandsOn (portsOf w) := by
  unfold assemble
  cases shapeOf mn with
  | noOperand => trivial
  | immShift | immArith | regReg | load | store => exact ⟨rfl, rfl, rfl⟩

theorem readPorts_portsOf (w : Word) : readPorts (portsOf w) w = some (decodeResult w) := by
  obtain ⟨mn, -, hr⟩ | ⟨-, hr⟩ := decodeResult_cases w <;> rw [hr]
  · exact readPorts_eq_ok_iff.mpr
      ⟨by simp [hr, validOut], by simp [hr, mnemOut], by simp [hr, shapeOut], operandsOn_assemble mn w⟩
  · exact readPorts_eq_invalid_iff.mpr ⟨by simp [hr, validOut], by simp [hr, mnemOut], by simp [hr, shapeOut]⟩

/-- Settles O24: after a step the block shows a word, and its ports are read as the decode of that word. -/
theorem resultIsReadOffThePorts : Obligations.ResultIsReadOffThePorts := by
  unfold Obligations.ResultIsReadOffThePorts
  intro s t ht
  rw [eq_showing_of_step ht]
  exact readPorts_portsOf (nextWord s)

theorem result_eq_iff_readPorts {s t : State} (h : step s = .next t) (r : Result) :
    t.result = r ↔ readPorts t.ports t.instr = some r := by
  rw [resultIsReadOffThePorts s t h, Option.some.injEq]

/-- After a step the result is an instruction exactly when the ports carry its codes and its operands. -/
theorem result_eq_ok_iff {s t : State} (h : step s = .next t) (d : Decoded) :
    t.result = .ok d ↔ t.ports.valid = 1 ∧ t.ports.mnem = mnemonicCode d.mnemonic ∧ t.ports.shape = shapeCode d.shape ∧
      d.OperandsOn t.ports :=
  (result_eq_iff_readPorts h (.ok d)).trans readPorts_eq_ok_iff

/-- After a step the result is Invalid exactly when the ports carry the codes of Invalid. -/
theorem result_eq_invalid_iff {s t : State} (h : step s = .next t) :
    t.result = .invalid t.instr ↔ t.ports.valid = 0 ∧ t.ports.mnem = 31 ∧ t.ports.shape = 7 :=
  (result_eq_iff_readPorts h (.invalid t.instr)).trans readPorts_eq_invalid_iff

/-- Settles O25: each form of result is read off the ports that its shape names. -/
theorem portsCorrespondToResult : Obligations.PortsCorrespondToResult := by
  unfold Obligations.PortsCorrespondToResult
  intro s t ht mn a b c o
  have hok := result_eq_ok_iff ht
  refine ⟨hok (.immShift mn a b c), hok (.immArith mn a b o), hok (.regReg mn a b c), hok (.load mn a b o),
    hok (.store mn a b o), (hok (.noOperand mn)).trans ?_, result_eq_invalid_iff ht⟩
  simp [Decoded.OperandsOn, Decoded.shape, Decoded.mnemonic, shapeCode]

/-- A step delivers an instruction or Invalid of the word at the input, and an instruction has the shape of its mnemonic (R69). -/
theorem result_cases_of_step {s t : State} (h : step s = .next t) :
    (∃ d, t.result = .ok d ∧ d.shape = shapeOf d.mnemonic) ∨ t.result = .invalid t.instr := by
  obtain rfl := eq_showing_of_step h
  obtain ⟨mn, -, hr⟩ | ⟨-, hr⟩ := decodeResult_cases (nextWord s)
  · exact .inl ⟨_, hr, by rw [assemble_shape, assemble_mnemonic]⟩
  · exact .inr hr

/-- Settles O26: an instruction and Invalid each drive their own codes, and a step delivers one of the two. -/
theorem codesDriven : Obligations.CodesDriven := by
  unfold Obligations.CodesDriven
  intro s t ht
  obtain ⟨d, hd, hshape⟩ | hinv := result_cases_of_step ht
  · obtain ⟨hvalid, hmnem, hsh, -⟩ := (result_eq_ok_iff ht d).mp hd
    have hvalid0 : t.ports.valid ≠ 0 := by simp [hvalid]
    refine ⟨iff_of_true hvalid ⟨d, hd⟩, iff_of_false hvalid0 (by simp [hd]), fun e he => ?_, fun _ => ?_,
      fun h => absurd h hvalid0⟩
    · obtain rfl := Result.ok.inj (hd.symm.trans he)
      exact ⟨hmnem, hsh, hshape⟩
    · rw [hmnem, hsh]
      exact ⟨mnemonicCode_toNat_le _, shapeCode_toNat_le _⟩
  · obtain ⟨hvalid, hmnem, hsh⟩ := (result_eq_invalid_iff ht).mp hinv
    simp [hinv, hvalid, hmnem, hsh]

end Sys2Proof.Machine
end

section
/-! PROOFS. What every meaning delivers and leaves unchanged; then the rules on words (41_op_imm.md, head): the whole template holds of
a mnemonic once its condition is the mnemonic's row of the predicate table, and the immediate instructions (R82 to R90) are cases. -/

namespace Sys2Proof.Machine

/-! ### What a meaning delivers, and what it leaves (R68, R76 to R78) -/

/-- Completion and frame of every meaning: its instruction is delivered with `valid` 1 and the codes of its mnemonic and shape. -/
theorem exec_eq_withOutputs (i : Instr) (s : State) :
    exec i s =
      .next (s.withOutputs (.ok (decodedOf i)) 1 (mnemonicCode i.mnemonic) (shapeCode (shapeOf i.mnemonic))) := by
  rw [exec_eq_deliver, ← decodedOf_shape, ← decodedOf_mnemonic]
  rfl

/-- Settles O28: each of the six meanings delivers its own instruction and codes. -/
theorem immArithCompletes : Obligations.ImmArithCompletes := by
  unfold Obligations.ImmArithCompletes
  exact fun s dst src imm => ⟨exec_eq_withOutputs (.addi dst src imm) s, exec_eq_withOutputs (.slti dst src imm) s,
    exec_eq_withOutputs (.sltiu dst src imm) s, exec_eq_withOutputs (.xori dst src imm) s,
    exec_eq_withOutputs (.ori dst src imm) s, exec_eq_withOutputs (.andi dst src imm) s⟩

/-- Settles O29: each of the three meanings delivers its own instruction and codes. -/
theorem immShiftCompletes : Obligations.ImmShiftCompletes := by
  unfold Obligations.ImmShiftCompletes
  exact fun s dst src shamt => ⟨exec_eq_withOutputs (.slli dst src shamt) s, exec_eq_withOutputs (.srli dst src shamt) s,
    exec_eq_withOutputs (.srai dst src shamt) s⟩

/-! ### The template of the rules (41_op_imm.md, head) -/

/-- The ports of a word of a mnemonic's row carry that mnemonic's codes and the word's raw slices (R76 to R79). -/
theorem portsOf_of_predicate {mn : Mnemonic} {w : Word} (h : predicate mn w = true) :
    portsOf w = drives 1 (mnemonicCode mn) (shapeCode (shapeOf mn)) w := by
  have hr := decodeResult_of_predicate h
  simp only [portsOf, hr, validOut, mnemOut, shapeOut, assemble_mnemonic, assemble_shape, drives]

/-- A mnemonic's code is driven by the words of its row alone: the codes are distinct, and Invalid drives none of them. -/
theorem portsOf_mnem_eq_iff (mn : Mnemonic) (w : Word) : (portsOf w).mnem = mnemonicCode mn ↔ predicate mn w = true := by
  constructor
  · intro hcode
    obtain ⟨m, hm, hr⟩ | ⟨-, hr⟩ := decodeResult_cases w <;> rw [portsOf_mnem, hr] at hcode
    · rw [mnemOut, assemble_mnemonic] at hcode
      exact mnemonicCode_injective hcode ▸ hm
    · have h31 : 31 = mnemonicCode mn := hcode
      exact absurd (mnemonicCode_toNat_le mn) (h31 ▸ by decide)
  · intro h
    rw [portsOf_of_predicate h]
    rfl

/-- A rule's examples as facts about the decode function: the state a word is supplied to does not matter. -/
theorem steps_of_decodeResults {examples : List (Word × String)}
    (h : ∀ e ∈ examples, render (decodeResult e.1) = e.2) :
    ∀ e ∈ examples, ∀ s : State, ∃ t, step (s.supplyWords [e.1]) = .next t ∧ render t.result = e.2 :=
  fun e he s => ⟨_, step_supplyWords_eq_showing s e.1 [], h e he⟩

/-- The whole rule of a mnemonic, with the constants of R59, the codes of R77 and R78 and the assembler's value, from what is left to
say of it: its condition is its row, and its examples are decoded as it says. -/
theorem ruleHolds_of_row (mn : Mnemonic) {selects : Fields → Prop} {examples : List (Word × String)}
    (hrow : ∀ f, rowHolds (predicateRow mn) f = true ↔ selects f)
    (hexamples : ∀ e ∈ examples, render (decodeResult e.1) = e.2) :
    RuleHolds (mnemonicCode mn) (shapeCode (shapeOf mn)) (matchOf mn) (maskOf mn) selects (assemble mn) examples := by
  have hpred : ∀ w, predicate mn w = true ↔ selects (slice w) := fun w => hrow (slice w)
  refine ⟨fun w => ?_, fun s hs => ?_, fun s t ht => ?_, steps_of_decodeResults hexamples⟩
  · rw [← predicateIsMaskMatch mn w, hpred]
  · have hsel := (hpred (nextWord s)).mpr hs
    exact ⟨_, step_eq_showing s, showing_instr _ _, decodeResult_of_predicate hsel, portsOf_of_predicate hsel⟩
  · rw [eq_showing_of_step ht, showing_ports, portsOf_mnem_eq_iff, hpred]

/-! ### The conditions of the rules (R58) -/

/-- A row that asks for an opcode and funct3 only. -/
theorem rowHolds_opcode_funct3 (op : BitVec 7) (f3 : BitVec 3) (f : Fields) :
    rowHolds ⟨op, some f3, none, false, false⟩ f = true ↔ f.opcode = op ∧ f.funct3 = f3 := by
  simp [rowHolds_iff, entryHolds]

/-- A row that asks for an opcode, funct3 and funct7. -/
theorem rowHolds_opcode_funct3_funct7 (op : BitVec 7) (f3 : BitVec 3) (f7 : BitVec 7) (f : Fields) :
    rowHolds ⟨op, some f3, some f7, false, false⟩ f = true ↔ f.opcode = op ∧ f.funct3 = f3 ∧ f.funct7 = f7 := by
  simp [rowHolds_iff, entryHolds]

/-! ### The rules of the immediate instructions (R82 to R90) -/

/-- Settles O34: the six rows ask for an opcode and funct3, and the examples are evaluated. -/
theorem immArithRules : Obligations.ImmArithRules := by
  unfold Obligations.ImmArithRules
  exact ⟨ruleHolds_of_row .ADDI (rowHolds_opcode_funct3 _ _) (by decide),
    ruleHolds_of_row .SLTI (rowHolds_opcode_funct3 _ _) (by decide),
    ruleHolds_of_row .SLTIU (rowHolds_opcode_funct3 _ _) (by decide),
    ruleHolds_of_row .XORI (rowHolds_opcode_funct3 _ _) (by decide),
    ruleHolds_of_row .ORI (rowHolds_opcode_funct3 _ _) (by decide),
    ruleHolds_of_row .ANDI (rowHolds_opcode_funct3 _ _) (by decide)⟩

/-- Settles O35: the three rows ask for funct7 as well, and the examples are evaluated. -/
theorem immShiftRules : Obligations.ImmShiftRules := by
  unfold Obligations.ImmShiftRules
  exact ⟨ruleHolds_of_row .SLLI (rowHolds_opcode_funct3_funct7 _ _ _) (by decide),
    ruleHolds_of_row .SRLI (rowHolds_opcode_funct3_funct7 _ _ _) (by decide),
    ruleHolds_of_row .SRAI (rowHolds_opcode_funct3_funct7 _ _ _) (by decide)⟩

/-! ### Words of the vectors (95_test_vectors.md) -/

/-- Settles O4: the eight words are evaluated. -/
theorem sampleWordsDecode : Obligations.SampleWordsDecode := by
  unfold Obligations.SampleWordsDecode
  decide

/-- Settles O48: the decodes of the seven words are evaluated, and a step from any state delivers them. -/
theorem sourceVectors : Obligations.SourceVectors := by
  unfold Obligations.SourceVectors
  exact steps_of_decodeResults (by decide)

end Sys2Proof.Machine
end

section
/-! PROOFS. LW and SW (42_load_store.md): each delivers its own instruction, and its whole rule holds of words. -/

namespace Sys2Proof.Machine

/-- Settles O30: each of the two meanings delivers its own instruction and codes, whatever its operands. -/
theorem loadStoreCompletes : Obligations.LoadStoreCompletes := by
  unfold Obligations.LoadStoreCompletes
  exact ⟨fun s dst base offset => exec_eq_withOutputs (.lw dst base offset) s,
    fun s src base offset => exec_eq_withOutputs (.sw src base offset) s⟩

/-- A row that asks for an opcode, funct3 and base register zero (R91). -/
theorem rowHolds_opcode_funct3_rs1 (op : BitVec 7) (f3 : BitVec 3) (f : Fields) :
    rowHolds ⟨op, some f3, none, true, false⟩ f = true ↔ f.opcode = op ∧ f.funct3 = f3 ∧ f.rs1 = 0#5 := by
  simp [rowHolds_iff, entryHolds]

/-- A row that asks for bits [31:30] clear as well (R92). -/
theorem rowHolds_opcode_funct3_rs1_top00 (op : BitVec 7) (f3 : BitVec 3) (f : Fields) :
    rowHolds ⟨op, some f3, none, true, true⟩ f = true ↔
      f.opcode = op ∧ f.funct3 = f3 ∧ f.rs1 = 0#5 ∧ f.funct7.extractLsb' 5 2 = 0b00#2 := by
  simp [rowHolds_iff, entryHolds]

/-- Settles O36: both rows ask for base register zero, SW's for bits [31:30] clear as well, and the examples are evaluated. -/
theorem loadStoreRules : Obligations.LoadStoreRules := by
  unfold Obligations.LoadStoreRules
  exact ⟨ruleHolds_of_row .LW (rowHolds_opcode_funct3_rs1 _ _) (by decide),
    ruleHolds_of_row .SW (rowHolds_opcode_funct3_rs1_top00 _ _) (by decide)⟩

end Sys2Proof.Machine
end

section
/-! PROOFS. The register-register instructions and the multiplies (43_op_reg.md): each delivers its own instruction, and its whole rule
holds of words. The fourteen share the opcode 0110011 and are told apart by funct3 and funct7 (its table). -/

namespace Sys2Proof.Machine

/-- Settles O31: each of the ten meanings delivers its own instruction and codes. -/
theorem regRegCompletes : Obligations.RegRegCompletes := by
  unfold Obligations.RegRegCompletes
  exact fun s dst src1 src2 => ⟨exec_eq_withOutputs (.add dst src1 src2) s, exec_eq_withOutputs (.sub dst src1 src2) s,
    exec_eq_withOutputs (.sll dst src1 src2) s, exec_eq_withOutputs (.slt dst src1 src2) s,
    exec_eq_withOutputs (.sltu dst src1 src2) s, exec_eq_withOutputs (.xor dst src1 src2) s,
    exec_eq_withOutputs (.srl dst src1 src2) s, exec_eq_withOutputs (.sra dst src1 src2) s,
    exec_eq_withOutputs (.or dst src1 src2) s, exec_eq_withOutputs (.and dst src1 src2) s⟩

/-- Settles O32: each of the four meanings delivers its own instruction and codes. -/
theorem multiplyCompletes : Obligations.MultiplyCompletes := by
  unfold Obligations.MultiplyCompletes
  exact fun s dst src1 src2 => ⟨exec_eq_withOutputs (.mul dst src1 src2) s, exec_eq_withOutputs (.mulh dst src1 src2) s,
    exec_eq_withOutputs (.mulhsu dst src1 src2) s, exec_eq_withOutputs (.mulhu dst src1 src2) s⟩

/-- Settles O37: the ten rows ask for an opcode, funct3 and funct7, and the examples are evaluated. -/
theorem regRegRules : Obligations.RegRegRules := by
  unfold Obligations.RegRegRules
  exact ⟨ruleHolds_of_row .ADD (rowHolds_opcode_funct3_funct7 _ _ _) (by decide),
    ruleHolds_of_row .SUB (rowHolds_opcode_funct3_funct7 _ _ _) (by decide),
    ruleHolds_of_row .SLL (rowHolds_opcode_funct3_funct7 _ _ _) (by decide),
    ruleHolds_of_row .SLT (rowHolds_opcode_funct3_funct7 _ _ _) (by decide),
    ruleHolds_of_row .SLTU (rowHolds_opcode_funct3_funct7 _ _ _) (by decide),
    ruleHolds_of_row .XOR (rowHolds_opcode_funct3_funct7 _ _ _) (by decide),
    ruleHolds_of_row .SRL (rowHolds_opcode_funct3_funct7 _ _ _) (by decide),
    ruleHolds_of_row .SRA (rowHolds_opcode_funct3_funct7 _ _ _) (by decide),
    ruleHolds_of_row .OR (rowHolds_opcode_funct3_funct7 _ _ _) (by decide),
    ruleHolds_of_row .AND (rowHolds_opcode_funct3_funct7 _ _ _) (by decide)⟩

/-- Settles O38: the four rows ask for funct7 0000001, and the examples are evaluated. -/
theorem multiplyRules : Obligations.MultiplyRules := by
  unfold Obligations.MultiplyRules
  exact ⟨ruleHolds_of_row .MUL (rowHolds_opcode_funct3_funct7 _ _ _) (by decide),
    ruleHolds_of_row .MULH (rowHolds_opcode_funct3_funct7 _ _ _) (by decide),
    ruleHolds_of_row .MULHSU (rowHolds_opcode_funct3_funct7 _ _ _) (by decide),
    ruleHolds_of_row .MULHU (rowHolds_opcode_funct3_funct7 _ _ _) (by decide)⟩

end Sys2Proof.Machine
end

section
/-! PROOFS. NOP and the Invalid outcome (44_nop_invalid.md): NOP's row asks for an opcode alone, and a word of no row is a result like
any other, told apart on the ports by `valid`. -/

namespace Sys2Proof.Machine

/-! ### NOP (R107) -/

/-- Settles O33: the meaning of NOP delivers it with its own codes. -/
theorem nopCompletes : Obligations.NopCompletes := by
  unfold Obligations.NopCompletes
  exact exec_eq_withOutputs .nop

/-- A row that asks for an opcode only. -/
theorem rowHolds_opcode (op : BitVec 7) (f : Fields) :
    rowHolds ⟨op, none, none, false, false⟩ f = true ↔ f.opcode = op := by
  simp [rowHolds_iff, entryHolds]

/-- Settles O39: the row asks for the opcode alone, and the examples are evaluated. -/
theorem nopRule : Obligations.NopRule := by
  unfold Obligations.NopRule
  exact ruleHolds_of_row .NOP (rowHolds_opcode _) (by decide)

/-! ### The Invalid outcome (R108, R119, R120) -/

/-- The ports of a word of no row carry the codes of Invalid and the word's raw slices (R76 to R79). -/
theorem portsOf_of_no_row {w : Word} (h : ∀ mn, predicate mn w = false) : portsOf w = drives 0 31 7 w := by
  have hr := decodeResult_of_no_row h
  simp only [portsOf, hr, validOut, mnemOut, shapeOut, drives]

/-- `valid` is 0 on the words of no row alone: a word of a row drives 1. -/
theorem portsOf_valid_eq_zero_iff (w : Word) : (portsOf w).valid = 0 ↔ ∀ mn, predicate mn w = false := by
  constructor
  · intro hvalid mn
    by_contra hrow
    rw [portsOf_of_predicate (Bool.eq_true_of_not_eq_false hrow)] at hvalid
    exact absurd hvalid (by decide : (1 : BitVec 1) ≠ 0)
  · intro h
    rw [portsOf_of_no_row h]
    rfl

/-- Settles O40: a step shows the next word, and the words of no row are those with `valid` 0. The examples share one text, so they are
examples of a rule with that text each. -/
theorem invalidRule : Obligations.InvalidRule := by
  unfold Obligations.InvalidRule
  refine ⟨fun s h => ?_, fun s t ht hvalid => ?_, fun w hw => ?_⟩
  · exact ⟨_, step_eq_showing s, showing_instr _ _, decodeResult_of_no_row h, portsOf_of_no_row h⟩
  · rw [eq_showing_of_step ht, showing_ports] at hvalid
    exact (portsOf_valid_eq_zero_iff _).mp hvalid
  · exact steps_of_decodeResults (by decide) (w, _) (List.mem_map_of_mem (f := (·, "Error - Invalid Instruction")) hw)

end Sys2Proof.Machine
end

section
/-! PROOFS. The text of a result (48_rendering.md): a number is printed as its decimal digits, a text is read back by splitting it at
the spaces, and the templates hold by definition. -/

namespace Sys2Proof.Machine

/-! ### Numbers (R117) -/

/-- The characters of a number are its digits in base ten. -/
theorem toList_decimal {n : Nat} (v : BitVec n) : (decimal v).toList = Nat.toDigits 10 v.toNat :=
  Nat.toList_repr

theorem mem_digits_of_isDigit {c : Char} (h : c.isDigit = true) :
    c ∈ ['0', '1', '2', '3', '4', '5', '6', '7', '8', '9'] := by
  obtain ⟨hlo, hhi⟩ : 48 ≤ c.toNat ∧ c.toNat ≤ 57 := Char.isDigit_iff_toNat.mp h
  have hall : ∀ k < 58, 48 ≤ k → Char.ofNat k ∈ ['0', '1', '2', '3', '4', '5', '6', '7', '8', '9'] := by decide
  exact Char.ofNat_toNat c ▸ hall c.toNat (Nat.lt_succ_of_le hhi) hlo

/-- The digits of a number begin with 0 only at 0, by induction on the number: the leading digit is that of its tenth. -/
theorem eq_zero_of_head?_toDigits {n : Nat} (h : (Nat.toDigits 10 n).head? = some '0') : n = 0 := by
  induction n using Nat.strong_induction_on with
  | _ n ih =>
    by_cases hlt : n < 10
    · simpa [Nat.toDigits_of_lt_base hlt] using h
    · have hle : 10 ≤ n := Nat.le_of_not_lt hlt
      rw [Nat.toDigits_of_base_le (by decide) hle, List.head?_append_of_ne_nil _ Nat.toDigits_ne_nil] at h
      have htenth : n / 10 = 0 := ih (n / 10) (by omega) h
      omega

/-- Settles O46: each clause is a fact about the digits of a number in base ten. -/
theorem numbersAreDecimal : Obligations.NumbersAreDecimal := by
  unfold Obligations.NumbersAreDecimal
  intro n v
  simp only [toList_decimal]
  refine ⟨Nat.toDigits_ne_nil, fun c hc => ?_, fun h => ?_, ?_⟩
  · exact mem_digits_of_isDigit (Nat.isDigit_of_mem_toDigits (by decide) (by decide) hc)
  · rw [eq_zero_of_head?_toDigits h, Nat.toDigits_zero]
  · exact Nat.ofDigitChars_eq_foldl.symm.trans Nat.ofDigitChars_ten_toDigits

/-! ### Reading a text back (R110 to R115) -/

/-- The mnemonic spelled by a word of a text. -/
def mnemonicOfName (name : String) : Option Mnemonic := priority.find? (mnemonicName · == name)

/-- The number written by a word of a text. -/
def numberOf (n : Nat) (digits : String) : BitVec n := BitVec.ofNat n (Nat.ofDigitChars 10 digits.toList 0)

/-- The words of an instruction's text: what stands between its spaces. -/
def Decoded.words : Decoded → List String
  | .immShift mn d s sh => [mnemonicName mn, "dst:", decimal d, "src:", decimal s, "shamt:", decimal sh]
  | .immArith mn d s i => [mnemonicName mn, "dst:", decimal d, "src:", decimal s, "imm:", decimal i]
  | .regReg mn d s1 s2 => [mnemonicName mn, "dst:", decimal d, "src1:", decimal s1, "src2:", decimal s2]
  | .load mn d b o => [mnemonicName mn, "dst:", decimal d, "base:", decimal b, "offset:", decimal o]
  | .store mn s b o => [mnemonicName mn, "src:", decimal s, "base:", decimal b, "offset:", decimal o]
  | .noOperand mn => [mnemonicName mn]

/-- The instruction that words spell: the labels name its shape. -/
def readWords : List String → Option Decoded
  | [name, "dst:", d, "src:", s, "shamt:", sh] =>
    (mnemonicOfName name).map (.immShift · (numberOf 5 d) (numberOf 5 s) (numberOf 5 sh))
  | [name, "dst:", d, "src:", s, "imm:", i] =>
    (mnemonicOfName name).map (.immArith · (numberOf 5 d) (numberOf 5 s) (numberOf 12 i))
  | [name, "dst:", d, "src1:", s1, "src2:", s2] =>
    (mnemonicOfName name).map (.regReg · (numberOf 5 d) (numberOf 5 s1) (numberOf 5 s2))
  | [name, "dst:", d, "base:", b, "offset:", o] =>
    (mnemonicOfName name).map (.load · (numberOf 5 d) (numberOf 5 b) (numberOf 12 o))
  | [name, "src:", s, "base:", b, "offset:", o] =>
    (mnemonicOfName name).map (.store · (numberOf 5 s) (numberOf 5 b) (numberOf 12 o))
  | [name] => (mnemonicOfName name).map .noOperand
  | _ => none

/-- The instruction whose text is given, read off the words between the spaces. -/
def readText (text : String) : Option Decoded := readWords ((text.toList.splitOn ' ').map String.ofList)

@[simp] theorem mnemonicOfName_mnemonicName (mn : Mnemonic) : mnemonicOfName (mnemonicName mn) = some mn := by
  cases mn <;> rfl

@[simp] theorem numberOf_decimal {n : Nat} (v : BitVec n) : numberOf n (decimal v) = v := by
  simp [numberOf, toList_decimal, Nat.ofDigitChars_ten_toDigits]

theorem readWords_words (d : Decoded) : readWords d.words = some d := by
  cases d <;> simp [readWords, Decoded.words]

theorem space_notMem_mnemonicName (mn : Mnemonic) : ' ' ∉ (mnemonicName mn).toList := by
  cases mn <;> decide

theorem space_notMem_decimal {n : Nat} (v : BitVec n) : ' ' ∉ (decimal v).toList := fun h =>
  absurd (Nat.isDigit_of_mem_toDigits (by decide) (by decide) (toList_decimal v ▸ h)) (by decide)

theorem space_notMem_words (d : Decoded) : ∀ l ∈ d.words.map String.toList, ' ' ∉ l := by
  cases d <;> simp [Decoded.words, space_notMem_mnemonicName, space_notMem_decimal]

/-- An instruction's text is its words with one space between each two (R117). -/
theorem toList_renderDecoded (d : Decoded) : (renderDecoded d).toList = [' '].intercalate (d.words.map String.toList) := by
  cases d <;> simp [renderDecoded, Decoded.words]

/-- An instruction is read back from its text: no word of it holds a space, so splitting gives its words. -/
theorem readText_renderDecoded (d : Decoded) : readText (renderDecoded d) = some d := by
  have hsplit : (renderDecoded d).toList.splitOn ' ' = d.words.map String.toList := by
    rw [toList_renderDecoded, List.splitOn_intercalate ' ' (space_notMem_words d) (by cases d <;> simp [Decoded.words])]
  rw [readText, hsplit, List.map_map]
  simpa [Function.comp_def] using readWords_words d

theorem readText_invalid : readText "Error - Invalid Instruction" = none := by
  decide

/-- Settles O47: reading the text back gives the instruction, and nothing from the error line. -/
theorem renderingIsFaithful : Obligations.RenderingIsFaithful := by
  unfold Obligations.RenderingIsFaithful
  refine ⟨fun d e h => ?_, fun d w h => ?_⟩
  · have hread : readText (renderDecoded d) = readText (renderDecoded e) := congrArg readText h
    rw [readText_renderDecoded, readText_renderDecoded] at hread
    exact Option.some.inj hread
  · have hread : readText (renderDecoded d) = readText "Error - Invalid Instruction" := congrArg readText h
    rw [readText_renderDecoded, readText_invalid] at hread
    cases hread

/-! ### The templates (R110 to R116) -/

/-- Settles O44: `render` is written as the templates, and the decodes of the four words are evaluated. -/
theorem renderShiftLoadStore : Obligations.RenderShiftLoadStore := by
  unfold Obligations.RenderShiftLoadStore
  exact ⟨fun _ _ _ _ => rfl, fun _ _ _ _ => rfl, fun _ _ _ _ => rfl, steps_of_decodeResults (by decide)⟩

/-- Settles O45: `render` is written as the templates and the fixed line. -/
theorem renderOtherResults : Obligations.RenderOtherResults := by
  unfold Obligations.RenderOtherResults
  exact ⟨fun _ _ _ _ => rfl, fun _ _ _ _ => rfl, fun _ => rfl, fun _ => rfl⟩

end Sys2Proof.Machine
end
